-- ==== Sys2Proof/Word.lean ====
section
/-! DEFINITION. The data of the block: bytes, pulse descriptors, and groups of exactly eight of a thing. -/

namespace Sys2Proof

/-- A byte, bit 7 the most significant (00 R19). -/
abbrev Byte := BitVec 8

/-- A pulse descriptor (30 R100): a low phase and then a high phase. A duration is a natural number of time units (00 R9);
how many bits it has is a width of the instance (00 R13), a check (`Pulse.fits`) and a matter of the ports (30 R101). -/
structure Pulse where
  loDur : Nat
  loLvl : Bool
  hiDur : Nat
  hiLvl : Bool
deriving DecidableEq, Repr, Inhabited

/-- Exactly eight, `p0` first in time: the operand of decodeByte is typed so that no other number of pulses can be given to
it (40 R139). -/
structure Eight (α : Type) where
  p0 : α
  p1 : α
  p2 : α
  p3 : α
  p4 : α
  p5 : α
  p6 : α
  p7 : α
deriving DecidableEq, Repr, Inhabited

/-- Eight pulses (30 R104). -/
abbrev PulseGroup := Eight Pulse

end Sys2Proof
end

