-- ==== Sys2Proof/Config.lean ====
section
/-! DEFINITION. The constants of the document in one record, the parameters the spec leaves open, and the environment's
answers with the free values that stand for them. -/

namespace Sys2Proof

/-- The document's numeric literals in one record (00 R9 to R12; 93 U9: an audit changes one place). -/
structure Literals where
  zeroLo : Nat
  zeroHi : Nat
  oneLo : Nat
  oneHi : Nat
  stopLo : Nat
  stopHi : Nat
  lenR1 : Nat
  lenR3 : Nat
  lenR8Min : Nat
  skipR8 : Nat
  bits : Nat
  rxTimeout : Nat
deriving DecidableEq, Repr

/-- The document's values: ZERO (3, 1), ONE (1, 3), STOP (2, 2); LEN_R1 9, LEN_R3 25, LEN_R8_MIN 90, SKIP_R8 25, BITS 8
(00 R10, R11); RX_TIMEOUT 100 (00 R12). -/
def Config.literals : Literals where
  zeroLo := 3
  zeroHi := 1
  oneLo := 1
  oneHi := 3
  stopLo := 2
  stopHi := 2
  lenR1 := 9
  lenR3 := 25
  lenR8Min := 90
  skipR8 := 25
  bits := 8
  rxTimeout := 100

/-- RX_TIMEOUT, the constant handed to the capture interface (00 R12, 10 R36). -/
def Config.rxTimeout : Nat := Config.literals.rxTimeout

/-- The two widths of an instance that the spec leaves open (00 R13, R15). They stand in State (`State.widths`), so that
every definition and statement over a state is about an instance of any widths (log 1). -/
structure Widths where
  /-- DUR_W, the number of bits of a duration at the ports (00 R13). -/
  durW : Nat
  /-- PIN_W, the number of bits of a pin identifier (00 R15). -/
  pinW : Nat
deriving DecidableEq, Repr

/-- What the spec asks of the widths: DUR_W at least 2 (00 R13), PIN_W at least 1 (92 section 2). -/
def Widths.legal (W : Widths) : Bool := decide (2 ≤ W.durW) && decide (1 ≤ W.pinW)

/-- The spec's defaults (00 R13, R15), at which spec/opcode_table.json writes the pulse words. -/
def Widths.table : Widths := ⟨15, 8⟩

/-- By how much CMD_MAX exceeds its least value: a free constant, no value of it can be proved (00 R14, log 2). -/
opaque Config.cmdMaxOver : Nat

/-- CMD_MAX, the greatest command length the block accepts: open, at least 3 (00 R14). DESIGN CHOICE (safe, log 2): every
number from 3 on is possible. -/
def Config.cmdMax : Nat := Config.cmdMaxOver + 3

/-- TX_MAX = 8·CMD_MAX + 1, the size of the transmit buffer (00 R18). -/
def Config.txMax : Nat := 8 * Config.cmdMax + 1

/-- A pin identifier, an uninterpreted value of PIN_W bits (00 R15). -/
abbrev Pin := Nat

/-- The token of a borrowed captured train (10 R41). DESIGN CHOICE (safe, log 17): a number that no rule computes with. -/
abbrev Handle := Nat

/-- The answer of env.configure (43 R206). -/
inductive ConfigureAnswer where
  | ok
  | fail
deriving DecidableEq, Repr, Inhabited

/-- The answer of env.capture (43 R203): no train within the timeout, or a handle with the train. The pulse count is the
length of the train (43 R203: "exactly `count` pulse descriptors"; log 3). -/
inductive CaptureAnswer where
  | noTrain
  | train (h : Handle) (pulses : List Pulse)
deriving DecidableEq, Repr, Inhabited

/-- FREE VALUE: the configure answer number `k` when the state scripts none (43 R206, log 4). -/
opaque Config.freeConfigure : Nat → ConfigureAnswer

/-- FREE VALUE: the capture answer number `k` when the state scripts none (43 R204: nothing may be assumed of it, log 4). -/
opaque Config.freeCapture : Nat → CaptureAnswer

end Sys2Proof
end

