-- ==== Sys2Proof/Syntax.lean ====
section
/-! DEFINITION. The operations of spec/opcode_table.json, one constructor per row, and what the host can put on the ports. -/

namespace Sys2Proof

/-- The rows of spec/opcode_table.json (30 R114, R115, R102). -/
inductive Instr where
  /-- ENC, 001: encodeByte(value) (40 R131). -/
  | enc (value : Byte)
  /-- DEC, 010: decodeByte(pulses) (40 R136). -/
  | dec (pulses : PulseGroup)
  /-- INIT, 011: ensureInitialized(pin) (42 R172). -/
  | init (pin : Pin)
  /-- SEND, 100: send(pin, command), `n` bytes (42 R173). -/
  | send (pin : Pin) (n : Nat) (command : List Byte)
  /-- RECV, 101: receive(pin) (42 R174). -/
  | recv (pin : Pin)
  /-- XFER, 110: sendAndReceive(pin, command), `n` bytes (42 R175). -/
  | xfer (pin : Pin) (n : Nat) (command : List Byte)
  /-- The reserved code 000 (30 R116). -/
  | reserved000
  /-- The reserved code 111 (30 R116). -/
  | reserved111
  /-- The pulse word ZERO driven on the wire DEC_IN[slot] (30 R102, 10 R45). DESIGN CHOICE (unsafe, log 11). -/
  | zero (slot : Fin 8)
  /-- The pulse word ONE driven on the wire DEC_IN[slot] (30 R102, 10 R45). DESIGN CHOICE (unsafe, log 11). -/
  | one (slot : Fin 8)
  /-- The pulse word STOP driven on the wire DEC_IN[slot] (30 R102, 10 R45). DESIGN CHOICE (unsafe, log 11). -/
  | stop (slot : Fin 8)
deriving DecidableEq, Repr

/-- The command port at one presentation: the 3-bit code and the operands, each on its own port beside it (30 R113, R115).
`pin` and `pulses` are what stands on their wires, of which the decoder reads PIN_W and 2·DUR_W + 2 bits. N is the number
of bytes of `command` ("`command`: N bytes", 30 R115, R118), so a bundle with another number cannot be written. -/
structure PortWords where
  op : BitVec 3
  pin : Nat
  command : List Byte
  value : Byte
  pulses : Eight Nat
deriving DecidableEq, Repr

/-- What the host puts on the block's ports in one move: an operation at the command port, or a pulse word on the wire
DEC_IN[slot] with no operation presented (30 R101, R113; log 11, log 12). -/
inductive Presented where
  | operation (words : PortWords)
  | pulseWord (slot : Fin 8) (word : Nat)
deriving DecidableEq, Repr

end Sys2Proof
end

