-- ==== Sys2Proof/WellFormed.lean ====
section
/-! DEFINITION. What a presented operation must satisfy beyond its types: its operands fit the ports of an instance. -/

namespace Sys2Proof

/-- The durations are unsigned integers in 0 .. 2^w - 1 (00 R13). -/
def Pulse.fits (w : Nat) (p : Pulse) : Bool := decide (p.loDur < 2 ^ w) && decide (p.hiDur < 2 ^ w)

/-- The identifier has w bits (00 R15). -/
def Pin.fits (w : Nat) (pin : Pin) : Bool := decide (pin < 2 ^ w)

/-- All eight pulses fit. -/
def Eight.fits (w : Nat) (g : PulseGroup) : Bool :=
  g.p0.fits w && g.p1.fits w && g.p2.fits w && g.p3.fits w && g.p4.fits w && g.p5.fits w && g.p6.fits w && g.p7.fits w

/-- The operands have the bits that the instance's ports have (00 R13, R15), and `command` is exactly `n`
bytes (30 R115). A command of more than CMD_MAX bytes is well formed: the block refuses it with E_LEN (42 R178). -/
def Instr.wf (W : Widths) : Instr → Bool
  | .enc _ => true
  | .dec pulses => pulses.fits W.durW
  | .init pin => Pin.fits W.pinW pin
  | .send pin n command => Pin.fits W.pinW pin && command.length == n
  | .recv pin => Pin.fits W.pinW pin
  | .xfer pin n command => Pin.fits W.pinW pin && command.length == n
  | .reserved000 => true
  | .reserved111 => true
  | .zero _ => true
  | .one _ => true
  | .stop _ => true

end Sys2Proof
end

