-- ==== Sys2Proof/Decode.lean ====
section
/-! DEFINITION. The pulse word (30 R101), the canonical pulses (30 R102), the decoder of what stands on the ports (30 R114,
R115), total, with a meaning for everything that can stand there, and the encoder written from the same tables. -/

namespace Sys2Proof

/-! ### The pulse word -/

/-- Format PULSE as the formula of 30 R101 gives it, at duration width w. -/
def Pulse.toWord (w : Nat) (p : Pulse) : Nat :=
  p.loDur + p.loLvl.toNat * 2 ^ w + p.hiDur * 2 ^ (w + 1) + p.hiLvl.toNat * 2 ^ (2 * w + 1)

/-- The fields of a pulse word, by the bit positions of 30 R101. A pulse word has 2w + 2 bits: there is no wire above. -/
def Pulse.ofWord (w x : Nat) : Pulse where
  loDur := x % 2 ^ w
  loLvl := x.testBit w
  hiDur := x / 2 ^ (w + 1) % 2 ^ w
  hiLvl := x.testBit (2 * w + 1)

/-- The canonical pulse ZERO, bit value 0 (30 R102): low 3, high 1, levels 0 and 1. -/
def Pulse.zero : Pulse := ⟨Config.literals.zeroLo, false, Config.literals.zeroHi, true⟩

/-- The canonical pulse ONE, bit value 1 (30 R102): low 1, high 3, levels 0 and 1. -/
def Pulse.one : Pulse := ⟨Config.literals.oneLo, false, Config.literals.oneHi, true⟩

/-- The canonical pulse STOP, the end of a transmission (30 R102): low 2, high 2, levels 0 and 1. -/
def Pulse.stop : Pulse := ⟨Config.literals.stopLo, false, Config.literals.stopHi, true⟩

/-- The same function on each of the eight. -/
def Eight.map {α β : Type} (f : α → β) (g : Eight α) : Eight β :=
  ⟨f g.p0, f g.p1, f g.p2, f g.p3, f g.p4, f g.p5, f g.p6, f g.p7⟩

/-! ### The decoder -/

/-- What stands on the ports: an instruction of the opcode table, or a pulse word that is none of the table's three, which
is legal input to the decoder of the codec all the same (30 R111) and stands on its wire. -/
inductive Decoded where
  | instr (i : Instr)
  | pulse (slot : Fin 8) (p : Pulse)
deriving DecidableEq, Repr

/-- The instruction that was read, if one was. -/
def Decoded.instr? : Decoded → Option Instr
  | .instr i => some i
  | .pulse _ _ => none

/-- The operation codes of 30 R114. The operands come from the operation's own ports (30 R115), of which PIN_W and
2·DUR_W + 2 bits are wired. DESIGN CHOICE (unsafe, log 13): what stands on the ports `value` and `pulses` while an
operation other than ENC or DEC is presented is not read, and the wires ENC_IN and DEC_IN keep what they carried. -/
def decodeOperation (W : Widths) (p : PortWords) : Instr :=
  match p.op.toNat with
  | 0 => .reserved000
  | 1 => .enc p.value
  | 2 => .dec (p.pulses.map (Pulse.ofWord W.durW))
  | 3 => .init (p.pin % 2 ^ W.pinW)
  | 4 => .send (p.pin % 2 ^ W.pinW) p.command.length p.command
  | 5 => .recv (p.pin % 2 ^ W.pinW)
  | 6 => .xfer (p.pin % 2 ^ W.pinW) p.command.length p.command
  | _ => .reserved111

/-- A pulse on the wire DEC_IN[slot]: one of the rows ZERO, ONE, STOP of the table (30 R102), or any other pulse (30 R111). -/
def decodePulse (slot : Fin 8) (p : Pulse) : Decoded :=
  if p = Pulse.zero then .instr (.zero slot)
  else if p = Pulse.one then .instr (.one slot)
  else if p = Pulse.stop then .instr (.stop slot)
  else .pulse slot p

/-- The decoder: total on whatever stands on the ports of an instance. -/
def decode (W : Widths) : Presented → Decoded
  | .operation p => .instr (decodeOperation W p)
  | .pulseWord slot x => decodePulse slot (Pulse.ofWord W.durW x)

/-! ### The encoder -/

/-- Ports with a given code and every operand port at zero. -/
def PortWords.ofCode (op : BitVec 3) : PortWords where
  op := op
  pin := 0
  command := []
  value := 0
  pulses := ⟨0, 0, 0, 0, 0, 0, 0, 0⟩

/-- The presentation of an instruction: its code from 30 R114, its operands on the ports of 30 R115, the ports it does
not use at zero. N is the number of bytes of the command (30 R115). -/
def encode (W : Widths) : Instr → Presented
  | .enc value => .operation { PortWords.ofCode 1 with value := value }
  | .dec pulses => .operation { PortWords.ofCode 2 with pulses := pulses.map (Pulse.toWord W.durW) }
  | .init pin => .operation { PortWords.ofCode 3 with pin := pin }
  | .send pin _ command => .operation { PortWords.ofCode 4 with pin := pin, command := command }
  | .recv pin => .operation { PortWords.ofCode 5 with pin := pin }
  | .xfer pin _ command => .operation { PortWords.ofCode 6 with pin := pin, command := command }
  | .reserved000 => .operation (PortWords.ofCode 0)
  | .reserved111 => .operation (PortWords.ofCode 7)
  | .zero slot => .pulseWord slot (Pulse.zero.toWord W.durW)
  | .one slot => .pulseWord slot (Pulse.one.toWord W.durW)
  | .stop slot => .pulseWord slot (Pulse.stop.toWord W.durW)

/-! ### The words of spec/opcode_table.json -/

/-- What a row's word of `nbits` bits puts on the ports: a row of format OP3 (one byte holds its 3 bits) is the code, of
which the table's mask 0x7 compares bits 2..0 only, with every operand port at zero; a row of format PULSE (32 bits) is
the word on the wire DEC_IN[0] (log 12). -/
def tablePresentation (nbits word : Nat) : Presented :=
  if nbits ≤ 8 then .operation (PortWords.ofCode (BitVec.ofNat 3 word)) else .pulseWord 0 word

/-- The instruction the decoder reads from a row's word, at the widths at which the table writes it. -/
def decodeTableWord (nbits w : Nat) : Option Instr :=
  (decode Widths.table (tablePresentation nbits w)).instr?

/-- The row of spec/opcode_table.json that an instruction belongs to: its "match" number. -/
def Instr.tableMatch : Instr → Nat
  | .reserved000 => 0x0
  | .enc _ => 0x1
  | .dec _ => 0x2
  | .init _ => 0x3
  | .send _ _ _ => 0x4
  | .recv _ => 0x5
  | .xfer _ _ _ => 0x6
  | .reserved111 => 0x7
  | .zero _ => 0x80010003
  | .one _ => 0x80030001
  | .stop _ => 0x80020002

/-- The number that the table masks and compares: the operation code, or the bits of the pulse word. -/
def Presented.tableNumber (W : Widths) : Presented → Nat
  | .operation p => p.op.toNat
  | .pulseWord _ x => x % 2 ^ (2 * W.durW + 2)

end Sys2Proof
end

