-- ==== Sys2Proof/Machine/State.lean ====
section
/-! DEFINITION. The state of the block (10_state.md), plain data, its value at reset, and the reasons a step can stop. -/

namespace Sys2Proof.Machine

/-- A buffer of the block (20 R70): index and element, the indexes strictly rising. An index that is not listed holds no
value (10 R53), so no listed entry can equal what an unlisted one reads as. -/
abbrev Memory (α : Type) := List (Nat × α)

/-- PHASE (10 R34, 42 R177). -/
inductive Phase where
  | idle
  | sending
  | awaitingResponse
  | decoding
  | timeout
  | done
deriving DecidableEq, Repr

/-- CUROP: the operation in flight, one of the four transceiver operations (10 R35). -/
inductive TransceiverOp where
  | init
  | send
  | recv
  | xfer
deriving DecidableEq, Repr

/-- The codes of ERR (60 R226). -/
inductive ErrCode where
  | noError
  | eHwcfg
  | eBusy
  | eLen
  | eOp
  | eFatal
deriving DecidableEq, Repr

/-- What the command port reports of the last operation presented: completed (42 R184), completed as failed (42 R185), or
refused with a code (60 R225). -/
inductive Signal where
  | completed
  | failed
  | refused (code : ErrCode)
deriving DecidableEq, Repr

/-- An environment event (00 R23, 10 R55). -/
inductive Event where
  | configure (pin : Pin) (answer : ConfigureAnswer)
  | transmit (pin : Pin) (train : List Pulse)
  | capture (pin : Pin) (timeout : Nat) (answer : CaptureAnswer)
  | release (h : Handle)
deriving DecidableEq, Repr

/-- The state elements that can hold no value (10 R49, R53). -/
inductive Element where
  | curop
  | pinr
  | cmdlen
  | cmd
  | tx
  | caph
  | capcnt
  | rx
  | rpt
  | rlen
deriving DecidableEq, Repr

/-- The reasons the machine stops. All are safe: the model stops where the spec gives no meaning (log 15, log 20). -/
inductive Fault where
  /-- A transition reads an element that holds no value (10 R53). Raised by `advance` only; no run reaches it. Safe. -/
  | holdsNoValue (e : Element)
  /-- PHASE and CUROP are on no path of 42 R177. Raised by `advance` only; no run reaches it. Safe. -/
  | offPath (p : Phase)
  /-- SEND or XFER given another number of bytes than N; no port can carry such an operation and the decoder never gives
  it (30 R115). Safe. -/
  | commandNotNBytes
deriving DecidableEq, Repr

/-- The reasons the model gives no meaning. All are safe. -/
inductive Refusal where
  /-- An instruction of the table with no meaning yet; no arm of `exec` answers it. Safe. -/
  | notModelled (mnemonic : String)
  /-- The host reads RLEN or RPT where they hold no value (10 R53, 93 U5). Raised by the host's reads only. Safe. -/
  | noValue (e : Element)
  /-- The host reads RLEN or RPT before the operation in flight is over (10 R44, 93 U5). Raised by the host's reads only.
  Safe. -/
  | operationInFlight (e : Element)
  /-- Reset while an operation is in flight (93 U12). Raised by `State.hostReset` only. Safe. -/
  | resetInFlight
deriving DecidableEq, Repr

/-- The state. `none` and an unlisted index are the spec's own "holds no value" (10 R49, R53). -/
structure State where
  /-- The widths DUR_W and PIN_W of this instance (00 R13, R15): the model's own, fixed, no step changes it (log 1). -/
  widths : Widths
  /-- INITED (10 R31). -/
  inited : Bool
  /-- FATAL (10 R32). -/
  fatal : Bool
  /-- ERR (10 R33). -/
  err : ErrCode
  /-- PHASE (10 R34). -/
  phase : Phase
  /-- CUROP (10 R35). -/
  curop : Option TransceiverOp
  /-- PINR (10 R37). -/
  pinr : Option Pin
  /-- CMDLEN (10 R38). -/
  cmdlen : Option Nat
  /-- CMD (10 R39). -/
  cmd : Memory Byte
  /-- TX (10 R40). -/
  tx : Memory Pulse
  /-- TXLEN (10 R40). -/
  txlen : Option Nat
  /-- CAPHELD (10 R41). -/
  capheld : Bool
  /-- CAPH (10 R41). -/
  caph : Option Handle
  /-- CAPCNT (10 R42). -/
  capcnt : Option Nat
  /-- RX, the window onto the borrowed train (10 R43, 20 R89). -/
  rx : List Pulse
  /-- RPT (10 R44). -/
  rpt : Memory Byte
  /-- RLEN (10 R44). -/
  rlen : Option Nat
  /-- The wire ENC_IN (10 R45; log 13). -/
  encIn : Byte
  /-- The wires DEC_IN[0..7] (10 R45; log 13). -/
  decIn : PulseGroup
  /-- What the command port reports (42 R184, R185; 60 R225; log 14). -/
  signal : Option Signal
  /-- The event history since reset, oldest first (10 R55). -/
  history : List Event
  /-- The model's own: what the host presents next, oldest first (log 18). -/
  presented : List Presented
  /-- The model's own: the answers of env.configure to come (log 4). -/
  configureAnswers : List ConfigureAnswer
  /-- The model's own: the answers of env.capture to come (log 4). -/
  captureAnswers : List CaptureAnswer
  /-- The model's own: how many free answers have been drawn (log 4). -/
  draws : Nat
deriving DecidableEq, Repr

/-- An instance of given widths after reset: the table of 10 R49 (70 R250), the event history empty, nothing presented and
no answer scripted. DESIGN CHOICE (log 13, log 14, log 4): the wires ENC_IN and DEC_IN at zero, no signal, no draw. -/
def State.resetAt (W : Widths) : State where
  widths := W
  inited := false
  fatal := false
  err := .noError
  phase := .idle
  curop := none
  pinr := none
  cmdlen := none
  cmd := []
  tx := []
  txlen := none
  capheld := false
  caph := none
  capcnt := none
  rx := []
  rpt := []
  rlen := none
  encIn := 0
  decIn := default
  signal := none
  history := []
  presented := []
  configureAnswers := []
  captureAnswers := []
  draws := 0

/-- The block after reset, at the spec's default widths (log 1). -/
def State.reset : State := State.resetAt Widths.table

end Sys2Proof.Machine
end

