-- ==== Sys2Proof/Machine/Ops.lean ====
section
/-! DEFINITION. The named operations over buffers and registers: MemRead and MemWrite (00 R22), the environment's answers
and events (43), the end of an operation (42 R184, R186), the refusals (60 R225) and the one exception (42 R185, 60 R229). -/

namespace Sys2Proof

/-- A pulse as it crosses a port of duration width w: its durations have w bits (00 R13). -/
def Pulse.onWires (w : Nat) (p : Pulse) : Pulse := { p with loDur := p.loDur % 2 ^ w, hiDur := p.hiDur % 2 ^ w }

/-- A capture answer as it reaches an instance: its pulse descriptors have DUR_W-bit durations (43 R203, 00 R13). -/
def CaptureAnswer.onWires (W : Widths) : CaptureAnswer → CaptureAnswer
  | .noTrain => .noTrain
  | .train h pulses => .train h (pulses.map (Pulse.onWires W.durW))

namespace Machine

/-! ### Buffers -/

/-- The canonical form of a buffer: indexes strictly rising. -/
def Memory.wf {α : Type} : Memory α → Bool
  | [] => true
  | [_] => true
  | a :: b :: rest => decide (a.1 < b.1) && Memory.wf (b :: rest)

/-- One element: no value where the index is not listed. -/
def Memory.read {α : Type} : Memory α → Nat → Option α
  | [], _ => none
  | (k, v) :: rest, i => if k = i then some v else Memory.read rest i

/-- Write one element, keeping the indexes in order. -/
def Memory.write {α : Type} : Memory α → Nat → α → Memory α
  | [], i, x => [(i, x)]
  | (k, v) :: rest, i, x =>
    if i < k then (i, x) :: (k, v) :: rest
    else if i = k then (i, x) :: rest
    else (k, v) :: Memory.write rest i x

/-- MemRead(B:i, n) (00 R22): the n elements from index i on; no result if one of them holds no value. -/
def memRead {α : Type} (m : Memory α) (i : Nat) : Nat → Option (List α)
  | 0 => some []
  | n + 1 =>
    match m.read i, memRead m (i + 1) n with
    | some x, some xs => some (x :: xs)
    | _, _ => none

/-- MemWrite(B:i, n, v) (00 R22): the sequence v from index i on. -/
def memWrite {α : Type} (m : Memory α) (i : Nat) : List α → Memory α
  | [] => m
  | x :: xs => memWrite (m.write i x) (i + 1) xs

/-- MemRead on a sequence held as such (00 R20, R22): the n elements S[i..i+n), no result beyond its end. -/
def seqRead {α : Type} (S : List α) (i n : Nat) : Option (List α) :=
  if i + n ≤ S.length then some ((S.drop i).take n) else none

/-! ### Codes -/

/-- The code of PHASE (10 R34). -/
def Phase.code : Phase → BitVec 3
  | .idle => 0
  | .sending => 1
  | .awaitingResponse => 2
  | .decoding => 3
  | .timeout => 4
  | .done => 5

/-- The code of CUROP: the operation code of 30 R114 (10 R35). -/
def TransceiverOp.code : TransceiverOp → BitVec 3
  | .init => 3
  | .send => 4
  | .recv => 5
  | .xfer => 6

/-- The code of ERR (60 R226). -/
def ErrCode.code : ErrCode → BitVec 3
  | .noError => 0
  | .eHwcfg => 1
  | .eBusy => 2
  | .eLen => 3
  | .eOp => 4
  | .eFatal => 5

/-! ### The environment -/

/-- The answer of env.configure and the state after it is drawn: the next one of `configureAnswers`, and when there is
none a free value (43 R206, log 4). -/
def drawConfigure (s : State) : ConfigureAnswer × State :=
  match s.configureAnswers with
  | a :: rest => (a, { s with configureAnswers := rest })
  | [] => (Config.freeConfigure s.draws, { s with draws := s.draws + 1 })

/-- The answer of env.capture and the state after it is drawn: the next one of `captureAnswers`, and when there is none a
free value (43 R203, R204, log 4). -/
def drawCapture (s : State) : CaptureAnswer × State :=
  match s.captureAnswers with
  | a :: rest => (a.onWires s.widths, { s with captureAnswers := rest })
  | [] => ((Config.freeCapture s.draws).onWires s.widths, { s with draws := s.draws + 1 })

/-- Record an event, in the order performed (00 R23, 10 R55). -/
def State.record (e : Event) (s : State) : State :=
  { s with history := s.history ++ [e] }

/-- PHASE <- p (10 R34, 00 R21). -/
def State.goTo (p : Phase) (s : State) : State := { s with phase := p }

/-! ### The end of an operation -/

/-- CUROP, PINR, CMDLEN, CMD, TX, TXLEN, CAPH and CAPCNT come to hold no value (10 R50, 42 R186). -/
def clearTransients (s : State) : State :=
  { s with curop := none, pinr := none, cmdlen := none, cmd := [], tx := [], txlen := none, caph := none, capcnt := none }

/-- DONE: completion is signalled and PHASE returns to IDLE (42 R184, R186). -/
def complete (s : State) : State :=
  { clearTransients s with phase := .idle, signal := some .completed }

/-- TAKING THE EXCEPTION HwConfigFailure, the transition FATAL-EXIT (42 R185, 60 R223, R229): FATAL <- 1, INITED as it
is (0), ERR <- E_HWCFG, PHASE <- IDLE, completion signalled as failed, RLEN, RPT and the transients hold no value, no
further event. There is no handler and no return from it but reset (60 R230, `State.hostReset`). -/
def takeHwConfigFailure (s : State) : State :=
  { clearTransients s with
    fatal := true, err := .eHwcfg, phase := .idle, rlen := none, rpt := [], signal := some .failed }

/-- A refusal at IDLE: ERR takes the code, nothing else of the block changes (60 R225, 42 R178). -/
def refuse (code : ErrCode) (s : State) : State :=
  { s with err := code, signal := some (.refused code) }

/-- The refusal E_BUSY: reported at the port, not stored in ERR, the operation in flight undisturbed (60 R225, 10 R33). -/
def refuseBusy (s : State) : State :=
  { s with signal := some (.refused .eBusy) }

/-! ### The setup step and the exception it can raise -/

/-- How a part of an operation ends: it goes on, or it has raised HwConfigFailure (00 R24). -/
inductive Ran where
  | goesOn (s : State)
  | raised (s : State)
deriving DecidableEq, Repr

/-- What follows a part of an operation: nothing once it has raised (00 R24). -/
def Ran.andThen (r : Ran) (next : State → Ran) : Ran :=
  match r with
  | .goesOn s => next s
  | .raised s => .raised s

/-- The end of an operation: DONE, or the exception. -/
def conclude : Ran → State
  | .goesOn s => complete s
  | .raised s => takeHwConfigFailure s

/-- The setup step ensureInitialized(pin), one indivisible step (42 R171, 20 R87, R88). With INITED = 1 nothing happens,
whatever the pin is (42 R192). -/
def ensureInitialized (pin : Pin) (s : State) : Ran :=
  if s.inited then .goesOn s
  else
    let drawn := drawConfigure s
    let s' := drawn.2.record (.configure pin drawn.1)
    match drawn.1 with
    | .ok => .goesOn { s' with inited := true }
    | .fail => .raised { s' with fatal := true }

/-! ### Small combinators -/

/-- Read what may hold no value: a fault where it holds none (10 R53). -/
def withValue {α : Type} (e : Element) (x : Option α) (k : α → Host.Outcome State Fault Refusal) :
    Host.Outcome State Fault Refusal :=
  match x with
  | some a => k a
  | none => .fault (.holdsNoValue e)

/-- Go on from a next state; stop where the first part stopped. -/
def onNext (o : Host.Outcome State Fault Refusal) (k : State → Host.Outcome State Fault Refusal) :
    Host.Outcome State Fault Refusal :=
  match o with
  | .next s => k s
  | .fault f => .fault f
  | .refused r => .refused r

end Machine

end Sys2Proof
end

