-- ==== Sys2Proof/Machine/Operands.lean ====
section
/-! DEFINITION. The operand forms: groups of eight pulses (30 R104, DEC_IN), and the operands latched at acceptance (42
R178, 20 R90). -/

namespace Sys2Proof

/-- Element j, counted from the first in time. -/
def Eight.get {α : Type} (g : Eight α) (j : Fin 8) : α :=
  match j with
  | 0 => g.p0
  | 1 => g.p1
  | 2 => g.p2
  | 3 => g.p3
  | 4 => g.p4
  | 5 => g.p5
  | 6 => g.p6
  | 7 => g.p7

/-- With element j replaced. -/
def Eight.set {α : Type} (g : Eight α) (j : Fin 8) (p : α) : Eight α :=
  match j with
  | 0 => { g with p0 := p }
  | 1 => { g with p1 := p }
  | 2 => { g with p2 := p }
  | 3 => { g with p3 := p }
  | 4 => { g with p4 := p }
  | 5 => { g with p5 := p }
  | 6 => { g with p6 := p }
  | 7 => { g with p7 := p }

/-- The eight whose element j is f j. -/
def Eight.ofFn {α : Type} (f : Fin 8 → α) : Eight α := ⟨f 0, f 1, f 2, f 3, f 4, f 5, f 6, f 7⟩

/-- As a sequence, the first in time first. -/
def Eight.toList {α : Type} (g : Eight α) : List α := [g.p0, g.p1, g.p2, g.p3, g.p4, g.p5, g.p6, g.p7]

/-- A sequence of exactly eight; any other number has none (40 R139, 93 U1). -/
def Eight.ofList? {α : Type} : List α → Option (Eight α)
  | [a, b, c, d, e, f, g, h] => some ⟨a, b, c, d, e, f, g, h⟩
  | _ => none

namespace Machine

/-- ACCEPT's common writes (42 R178): CUROP <- OP, PINR <- pin, ERR <- NONE, RLEN and RPT come to hold no value. -/
def latch (op : TransceiverOp) (pin : Pin) (s : State) : State :=
  { s with curop := some op, pinr := some pin, err := .noError, rlen := none, rpt := [] }

/-- ACCEPT's writes for SEND and XFER (42 R178): CMDLEN <- N, CMD[0 .. N) <- command. -/
def latchCommand (n : Nat) (command : List Byte) (s : State) : State :=
  { s with cmdlen := some n, cmd := memWrite s.cmd 0 command }

/-- The operand `command` is N bytes (30 R115); a presentation with another number does not exist, and stops by name. -/
def withCommand (n : Nat) (command : List Byte) (o : Host.Outcome State Fault Refusal) :
    Host.Outcome State Fault Refusal :=
  if command.length = n then o else .fault .commandNotNBytes

end Machine

end Sys2Proof
end

