-- ==== Sys2Proof/Machine/Flags.lean ====
section
/-! DEFINITION. The status flags a host can read (10 R47) and the checks of an operation at the port, in the order of 42
R178 and 60 R228. -/

namespace Sys2Proof.Machine

/-- BUSY = (PHASE != IDLE) (10 R34, R47). -/
def State.busy (s : State) : Bool := decide (s.phase ≠ .idle)

/-- The operation is looked at only while PHASE = IDLE; else E_BUSY before any other check (60 R225, R228). -/
def atIdle (s : State) (k : Host.Outcome State Fault Refusal) : Host.Outcome State Fault Refusal :=
  if s.busy then .next (refuseBusy s) else k

/-- The checks of a transceiver operation in their order, E_BUSY, E_FATAL, E_LEN (42 R178, 60 R228): `tooLong` says
whether the operation has a command with N > CMD_MAX. An operation that passes goes on with `k`. -/
def atPort (tooLong : Bool) (s : State) (k : Host.Outcome State Fault Refusal) : Host.Outcome State Fault Refusal :=
  atIdle s
    (if s.fatal then .next (refuse .eFatal s)
     else if tooLong then .next (refuse .eLen s)
     else k)

/-- N > CMD_MAX (42 R178 check 4). -/
def commandTooLong (n : Nat) : Bool := decide (Config.cmdMax < n)

end Sys2Proof.Machine
end

