-- ==== Sys2Proof/Machine/Codec.lean ====
section
/-! DEFINITION. The pulse codec (40_pulse_codec.md) and the operations ENC and DEC. -/

namespace Sys2Proof

/-- bitToPulse (40 R130). -/
def bitToPulse (b : Bool) : Pulse :=
  if b then Pulse.one else Pulse.zero

/-- encodeByte (40 R131): pulse j carries bit 7 - j. -/
def encodeByte (value : Byte) : PulseGroup :=
  Eight.ofFn fun j => bitToPulse (value.getLsbD (7 - j.val))

/-- pulseToBit (40 R135): 1 when the low duration is strictly less than the high duration, unsigned; the levels are not
looked at (40 R138). -/
def pulseToBit (p : Pulse) : Bool :=
  decide (p.loDur < p.hiDur)

/-- decodeByte (40 R136, 30 R107): the byte whose bit 7 - j is the bit of pulse j. -/
def decodeByte (g : PulseGroup) : Byte :=
  BitVec.ofBoolListBE
    [pulseToBit g.p0, pulseToBit g.p1, pulseToBit g.p2, pulseToBit g.p3,
     pulseToBit g.p4, pulseToBit g.p5, pulseToBit g.p6, pulseToBit g.p7]

namespace Machine

/-- The wires ENC_OUT[0..7] at all times (10 R45). -/
def State.encOut (s : State) : PulseGroup := encodeByte s.encIn

/-- The wires DEC_OUT at all times (10 R45). -/
def State.decOut (s : State) : Byte := decodeByte s.decIn

/-- ENC completes at once: no state element changes, no event (40 R133). Its result stands on ENC_OUT. -/
def codecDone (s : State) : State := { s with signal := some .completed }

/-- ENC (40 R131, R133): the operand stands on ENC_IN, so ENC_OUT is encodeByte(value); accepted whenever PHASE = IDLE,
whatever FATAL and INITED are. The wire carries the operand also when the operation is refused (DEDUCED, log 13). -/
def execEnc (value : Byte) (s : State) : Host.Outcome State Fault Refusal :=
  let driven := { s with encIn := value }
  atIdle driven (.next (codecDone driven))

/-- DEC (40 R136, R141): the operand stands on DEC_IN, so DEC_OUT is decodeByte(pulses); else as ENC. -/
def execDec (pulses : PulseGroup) (s : State) : Host.Outcome State Fault Refusal :=
  let driven := { s with decIn := pulses }
  atIdle driven (.next (codecDone driven))

/-- A pulse word on the wire DEC_IN[slot] (10 R45, 30 R101): DEC_OUT follows at all times; no operation is presented, so
nothing else changes, in any PHASE. -/
def drivePulse (slot : Fin 8) (p : Pulse) (s : State) : State :=
  { s with decIn := s.decIn.set slot p }

/-- The pulse word ZERO on DEC_IN[slot] (30 R102). DESIGN CHOICE (unsafe, log 11). -/
def execZero (slot : Fin 8) (s : State) : Host.Outcome State Fault Refusal := .next (drivePulse slot Pulse.zero s)

/-- The pulse word ONE on DEC_IN[slot] (30 R102). DESIGN CHOICE (unsafe, log 11). -/
def execOne (slot : Fin 8) (s : State) : Host.Outcome State Fault Refusal := .next (drivePulse slot Pulse.one s)

/-- The pulse word STOP on DEC_IN[slot] (30 R102). DESIGN CHOICE (unsafe, log 11). -/
def execStop (slot : Fin 8) (s : State) : Host.Outcome State Fault Refusal := .next (drivePulse slot Pulse.stop s)

end Machine

end Sys2Proof
end

