-- ==== Sys2Proof/Machine/Framing.lean ====
section
/-! DEFINITION. The pulse-sequence builder, the response-length classifier and the frame slicer
(41_frame_builder_classifier.md). -/

namespace Sys2Proof

/-- buildTrain (41 R150): the encoded bytes in order, then one STOP pulse. -/
def buildTrain (command : List Byte) : List (Pulse) :=
  command.flatMap (fun b => (encodeByte b).toList) ++ [Pulse.stop]

/-- The classifier's verdict (00 R27). -/
inductive FrameClass where
  | unrecognized
  | r1
  | r3
  | r8
deriving DecidableEq, Repr

/-- classify (41 R154): by the count alone, exact for 9 and 25, a lower bound for 90. -/
def classify (count : Nat) : FrameClass :=
  if count = Config.literals.lenR1 then .r1
  else if count = Config.literals.lenR3 then .r3
  else if Config.literals.lenR8Min ≤ count then .r8
  else .unrecognized

/-- The code of a verdict (30 R117): NONE 0, R1 1, R3 2, R8 3. -/
def FrameClass.code : FrameClass → BitVec 2
  | .unrecognized => 0
  | .r1 => 1
  | .r3 => 2
  | .r8 => 3

/-- RLEN of a class (41 R156). -/
def FrameClass.rlen : FrameClass → Nat
  | .unrecognized => 0
  | .r1 => 1
  | .r3 => 3
  | .r8 => 8

/-- BASE of a class, the first pulse of its first byte (41 R156); a class of no bytes has none and it is never used. -/
def FrameClass.base : FrameClass → Nat
  | .unrecognized => 0
  | .r1 => 0
  | .r3 => 0
  | .r8 => Config.literals.skipR8

/-- The byte decoded from P[start .. start+8) (41 R157): MemRead and decodeByte of exactly eight pulses. -/
def readByte (P : List (Pulse)) (start : Nat) : Option Byte :=
  ((Machine.seqRead P start Config.literals.bits).bind Eight.ofList?).map decodeByte

/-- n bytes from consecutive ranges of eight pulses, the first at `start`, in ascending order (41 R157, R158). -/
def readBytes (P : List (Pulse)) (start : Nat) : Nat → Option (List Byte)
  | 0 => some []
  | n + 1 =>
    match readByte P start, readBytes P (start + Config.literals.bits) n with
    | some b, some bs => some (b :: bs)
    | _, _ => none

/-- decodeFrame(count, P) as the pseudocode of 41 R157 has it: no result if a range read lies outside P. -/
def decodeFrame? (count : Nat) (P : List (Pulse)) : Option (Nat × List Byte) :=
  let c := classify count
  (readBytes P c.base c.rlen).map fun bytes => (c.rlen, bytes)

theorem readByte_isSome (P : List (Pulse)) (start : Nat) (h : start + 8 ≤ P.length) :
    (readByte P start).isSome = true := by
  have hlen : ((P.drop start).take 8).length = 8 := by simp; omega
  have hread : Machine.seqRead P start Config.literals.bits = some ((P.drop start).take 8) := by
    simp [Machine.seqRead, Config.literals, h]
  rw [readByte, hread]
  match hl : (P.drop start).take 8, hlen with
  | [_, _, _, _, _, _, _, _], _ => rfl

theorem readBytes_isSome (P : List (Pulse)) (n : Nat) :
    ∀ start, start + 8 * n ≤ P.length → (readBytes P start n).isSome = true := by
  induction n with
  | zero => intro _ _; rfl
  | succ n ih =>
    intro start h
    obtain ⟨b, hb⟩ := Option.isSome_iff_exists.mp (readByte_isSome P start (by omega))
    obtain ⟨bs, hbs⟩ := Option.isSome_iff_exists.mp (ih (start + 8) (by omega))
    have hbits : Config.literals.bits = 8 := rfl
    simp [readBytes, hb, hbs, hbits]

/-- The slicer never reads beyond a train of the count it classified (41 R160). -/
theorem FrameClass.within (count : Nat) : 8 * (classify count).rlen = 0 ∨
    (classify count).base + 8 * (classify count).rlen ≤ count := by
  by_cases h9 : count = 9
  · subst h9; right; decide
  · by_cases h25 : count = 25
    · subst h25; right; decide
    · by_cases h90 : 90 ≤ count
      · right
        simp [classify, Config.literals, FrameClass.base, FrameClass.rlen, h9, h25, h90]
        omega
      · left
        simp [classify, Config.literals, FrameClass.rlen, h9, h25, h90]

theorem decodeFrame?_isSome (P : List (Pulse)) : (decodeFrame? P.length P).isSome = true := by
  have h := FrameClass.within P.length
  have hs : (readBytes P (classify P.length).base (classify P.length).rlen).isSome = true := by
    rcases h with h | h
    · have h0 : (classify P.length).rlen = 0 := by omega
      rw [h0]; rfl
    · exact readBytes_isSome P _ _ h
  simp only [decodeFrame?, Option.isSome_map]
  exact hs

/-- decodeFrame of a captured train (41 R157), whose count is its length: total (41 R160). -/
def decodeFrame (P : List (Pulse)) : Nat × List Byte :=
  (decodeFrame? P.length P).get (decodeFrame?_isSome P)

end Sys2Proof
end

