-- ==== Sys2Proof/Machine/Transceiver.lean ====
section
/-! DEFINITION. INIT, SEND, RECV and XFER as the pseudocode of 42 R172 to R175 gives them, one whole operation at a time
(42 R187), and the reserved codes (30 R116). -/

namespace Sys2Proof.Machine

/-- SEND's steps 2 and 3 (42 R173): the train is built whole into TX and then handed to the generator, which completes
(43 R201, R202; log 5). -/
def transmitCommand (pin : Pin) (n : Nat) (command : List Byte) (s : State) : State :=
  let train := buildTrain command
  { s with
    tx := memWrite s.tx 0 train
    txlen := some (8 * n + 1)
    history := s.history ++ [.transmit pin train] }

/-- The borrowed train is taken over: CAPHELD, CAPH, CAPCNT, and RX the window onto it (42 R174, R181). -/
def holdTrain (h : Handle) (train : List Pulse) (s : State) : State :=
  { s with capheld := true, caph := some h, capcnt := some train.length, rx := train }

/-- RPT[0 .. n) <- bytes and RLEN <- n (42 R183). -/
def writeReport (result : Nat × List Byte) (s : State) : State :=
  { s with rpt := memWrite s.rpt 0 result.2, rlen := some result.1 }

/-- RLEN <- 0; no element of RPT is written (42 R182). -/
def emptyReport (s : State) : State := { s with rlen := some 0 }

/-- env.release(h) and CAPHELD <- 0; CAPH, CAPCNT and the window RX hold no value from then on (42 R183, 10 R41 to R43). -/
def releaseTrain (h : Handle) (s : State) : State :=
  { s with capheld := false, caph := none, capcnt := none, rx := [], history := s.history ++ [.release h] }

/-- RECV's steps 2 to 5 (42 R174): the capture, and on a train the decoding and the release, on every path that captured. -/
def receiveReport (pin : Pin) (s : State) : State :=
  let drawn := drawCapture s
  let s' := drawn.2.record (.capture pin Config.rxTimeout drawn.1)
  match drawn.1 with
  | .noTrain => emptyReport s'
  | .train h train => releaseTrain h (writeReport (decodeFrame train) (holdTrain h train s'))

/-- send(pin, command) after its operands are latched (42 R173). -/
def sendBody (pin : Pin) (n : Nat) (command : List Byte) (s : State) : Ran :=
  (ensureInitialized pin s).andThen fun s' => .goesOn (transmitCommand pin n command s')

/-- receive(pin) after its operand is latched (42 R174). -/
def receiveBody (pin : Pin) (s : State) : Ran :=
  (ensureInitialized pin s).andThen fun s' => .goesOn (receiveReport pin s')

/-- INIT (42 R172). -/
def execInit (pin : Pin) (s : State) : Host.Outcome State Fault Refusal :=
  atPort false s
    (.next (conclude (ensureInitialized pin (latch .init pin s))))

/-- SEND (42 R173). -/
def execSend (pin : Pin) (n : Nat) (command : List Byte) (s : State) : Host.Outcome State Fault Refusal :=
  atPort (commandTooLong n) s
    (withCommand n command
      (.next (conclude (sendBody pin n command (latchCommand n command (latch .send pin s))))))

/-- RECV (42 R174). -/
def execRecv (pin : Pin) (s : State) : Host.Outcome State Fault Refusal :=
  atPort false s
    (.next (conclude (receiveBody pin (latch .recv pin s))))

/-- XFER (42 R175): SEND then RECV under one acceptance; if the first half raises, XFER ends there. -/
def execXfer (pin : Pin) (n : Nat) (command : List Byte) (s : State) : Host.Outcome State Fault Refusal :=
  atPort (commandTooLong n) s
    (withCommand n command
      (.next (conclude
        ((sendBody pin n command (latchCommand n command (latch .xfer pin s))).andThen (receiveBody pin)))))

/-- A reserved operation code at the port (30 R116, 42 R178 check 1): E_BUSY first, else E_OP, whatever FATAL is. -/
def reservedCode (s : State) : Host.Outcome State Fault Refusal :=
  atIdle s (.next (refuse .eOp s))

/-- The reserved code 000 (30 R116). -/
def execReserved000 (s : State) : Host.Outcome State Fault Refusal := reservedCode s

/-- The reserved code 111 (30 R116). -/
def execReserved111 (s : State) : Host.Outcome State Fault Refusal := reservedCode s

end Sys2Proof.Machine
end

