-- ==== Sys2Proof/Machine/Dispatch.lean ====
section
/-! DEFINITION. One arm per row of the opcode table. -/

namespace Sys2Proof.Machine

def exec (i : Instr) (s : State) : Host.Outcome State Fault Refusal :=
  match i with
  | .enc value => Sys2Proof.Machine.execEnc value s
  | .dec pulses => Sys2Proof.Machine.execDec pulses s
  | .init pin => Sys2Proof.Machine.execInit pin s
  | .send pin n command => Sys2Proof.Machine.execSend pin n command s
  | .recv pin => Sys2Proof.Machine.execRecv pin s
  | .xfer pin n command => Sys2Proof.Machine.execXfer pin n command s
  | .reserved000 => Sys2Proof.Machine.execReserved000 s
  | .reserved111 => Sys2Proof.Machine.execReserved111 s
  | .zero slot => Sys2Proof.Machine.execZero slot s
  | .one slot => Sys2Proof.Machine.execOne slot s
  | .stop slot => Sys2Proof.Machine.execStop slot s

end Sys2Proof.Machine
end

