-- ==== Sys2Proof/Machine/Sequencer.lean ====
section
/-! DEFINITION. The state machine of 42 R177 to R186, one transition at a time: the second description of the same
operations (42 R187). -/

namespace Sys2Proof.Machine

/-- Transition SETUP, the end of ACCEPT (42 R179): the setup step, then the first state of the path, or FATAL-EXIT. -/
def setup (pin : Pin) (first : Phase) (s : State) : State :=
  match ensureInitialized pin s with
  | .goesOn s' => s'.goTo first
  | .raised s' => takeHwConfigFailure s'

/-- Transition ACCEPT (42 R178) for a presented operation; ENC, DEC, a reserved code and a pulse word are over at once. -/
def accept (i : Instr) (s : State) : Host.Outcome State Fault Refusal :=
  match i with
  | .init pin => atPort false s (.next (setup pin .done (latch .init pin s)))
  | .send pin n command =>
    atPort (commandTooLong n) s
      (withCommand n command (.next (setup pin .sending (latchCommand n command (latch .send pin s)))))
  | .recv pin => atPort false s (.next (setup pin .awaitingResponse (latch .recv pin s)))
  | .xfer pin n command =>
    atPort (commandTooLong n) s
      (withCommand n command (.next (setup pin .sending (latchCommand n command (latch .xfer pin s)))))
  | .enc value => execEnc value s
  | .dec pulses => execDec pulses s
  | .reserved000 => execReserved000 s
  | .reserved111 => execReserved111 s
  | .zero slot => execZero slot s
  | .one slot => execOne slot s
  | .stop slot => execStop slot s

/-- Where SENDING goes: AWAITING_RESPONSE for XFER, DONE for SEND (42 R180). -/
def afterSending (s : State) : Host.Outcome State Fault Refusal :=
  withValue .curop s.curop fun op =>
    match op with
    | .xfer => .next (s.goTo .awaitingResponse)
    | .send => .next (s.goTo .done)
    | .init => .fault (.offPath .sending)
    | .recv => .fault (.offPath .sending)

/-- State SENDING (42 R180): the train is built from CMD into TX, and what TX holds is transmitted. -/
def advanceSending (s : State) : Host.Outcome State Fault Refusal :=
  withValue .pinr s.pinr fun pin =>
  withValue .cmdlen s.cmdlen fun n =>
  withValue .cmd (memRead s.cmd 0 n) fun command =>
  let built := { s with tx := memWrite s.tx 0 (buildTrain command), txlen := some (8 * n + 1) }
  withValue .tx (memRead built.tx 0 (8 * n + 1)) fun train =>
  afterSending (built.record (.transmit pin train))

/-- State AWAITING_RESPONSE (42 R181). -/
def advanceAwaiting (s : State) : Host.Outcome State Fault Refusal :=
  withValue .pinr s.pinr fun pin =>
  let drawn := drawCapture s
  let s' := drawn.2.record (.capture pin Config.rxTimeout drawn.1)
  match drawn.1 with
  | .noTrain => .next (s'.goTo .timeout)
  | .train h train => .next ((holdTrain h train s').goTo .decoding)

/-- State TIMEOUT (42 R182). -/
def advanceTimeout (s : State) : Host.Outcome State Fault Refusal :=
  .next ((emptyReport s).goTo .done)

/-- State DECODING (42 R183). -/
def advanceDecoding (s : State) : Host.Outcome State Fault Refusal :=
  withValue .capcnt s.capcnt fun count =>
  withValue .caph s.caph fun h =>
  withValue .rx (decodeFrame? count s.rx) fun result =>
  .next ((releaseTrain h (writeReport result s)).goTo .done)

/-- One transition of the operation in flight, by PHASE; the block waits in IDLE (42 R180 to R184, 70 R253). -/
def advance (s : State) : Host.Outcome State Fault Refusal :=
  match s.phase with
  | .idle => .next s
  | .sending => advanceSending s
  | .awaitingResponse => advanceAwaiting s
  | .decoding => advanceDecoding s
  | .timeout => advanceTimeout s
  | .done => .next (complete s)

/-- At most k transitions, stopping at IDLE: the operation is over when PHASE has returned to IDLE (00 R29, 42 R186). -/
def settle : Nat → State → Host.Outcome State Fault Refusal
  | 0, s => .next s
  | k + 1, s => if s.busy then onNext (advance s) (settle k) else .next s

end Sys2Proof.Machine
end

