-- ==== Sys2Proof/Machine/HostPort.lean ====
section
/-! DEFINITION. What the host can do besides presenting operations: read the result registers in their window (10 R44,
R53) and reset the block (70 R250, 93 U12). -/

namespace Sys2Proof.Machine

/-- The host reads a result register: refused before the operation in flight is over, where the window has not opened, and
where the register holds no value (10 R44, R53; 92 D16; 93 U5). -/
def State.hostRead {α : Type} (e : Element) (x : Option α) (s : State) : Except Refusal α :=
  if s.busy then .error (.operationInFlight e)
  else
    match x with
    | some a => .ok a
    | none => .error (.noValue e)

/-- The host reads RLEN. -/
def State.hostReadRlen (s : State) : Except Refusal Nat := s.hostRead .rlen s.rlen

/-- The host reads RPT[k]; RPT[RLEN .. 8) holds no value (10 R44). -/
def State.hostReadRpt (s : State) (k : Nat) : Except Refusal Byte := s.hostRead .rpt (s.rpt.read k)

/-- The host resets the block, at PHASE = IDLE only (70 R250, R262; 93 U12): every element takes its reset value and the
history begins anew. The environment and what the host will present are outside the block and stay (70 R252, log 16).
DESIGN CHOICE: the input wires go to zero (log 13) and the signal to none (log 14). -/
def State.hostReset (s : State) : Host.Outcome State Fault Refusal :=
  if s.busy then .refused .resetInFlight
  else .next { State.resetAt s.widths with
    presented := s.presented
    configureAnswers := s.configureAnswers
    captureAnswers := s.captureAnswers
    draws := s.draws }

/-- Take the oldest presentation off the ports. -/
def State.popPresented (s : State) : State := { s with presented := s.presented.tail }

/-- Perform what stands on the ports: an operation with `run`; a pulse word of no row of the table just stands on its wire
of DEC_IN, as the canonical ones do (30 R111, 10 R45; log 11). -/
def runPresented (run : Instr → State → Host.Outcome State Fault Refusal) (p : Presented) (s : State) :
    Host.Outcome State Fault Refusal :=
  match decode s.widths p with
  | .instr i => run i s.popPresented
  | .pulse slot q => .next (drivePulse slot q s.popPresented)

/-- One transition of the state machine (42 R178 to R185): ACCEPT of what the host presents, or, with nothing presented,
the transition of PHASE. An operation presented while PHASE != IDLE is refused with E_BUSY. -/
def seqStep (s : State) : Host.Outcome State Fault Refusal :=
  match s.presented with
  | [] => advance s
  | p :: _ => runPresented accept p s

end Sys2Proof.Machine
end

