-- ==== Sys2Proof/Machine/Step.lean ====
section
/-! DEFINITION. The step: one presented operation, whole (42 R187). -/

namespace Sys2Proof.Machine

/-- One step. With something on the ports, that operation whole (42 R187, 95 section 3: each after the previous one is
over). With nothing on the ports, the block waits in IDLE (70 R253), or makes the next transition of an operation in
flight (42 R180 to R184). -/
def step (s : State) : Host.Outcome State Fault Refusal :=
  match s.presented with
  | [] => advance s
  | p :: _ => runPresented exec p s

/-- The state with a table row's word on the ports, before whatever else the host will present: what the very next step
reads (log 12, log 18). -/
def State.withFetchWord (s : State) (nbits w : Nat) : State :=
  { s with presented := tablePresentation nbits w :: s.presented }

end Sys2Proof.Machine
end

