-- ==== Sys2Proof/Safety.lean ====
section
/-! DEFINITION. What counts as a safe run: the faulted state (60 R230), the legal event histories (42 R190), and the
invariant of the block (10 R54, R50). -/

namespace Sys2Proof.Machine

/-- A state with FATAL = 1 is faulted (60 R230, 93 U4). -/
def Faulted (s : State) : Prop := s.fatal = true

/-- The final state of a successful run: the block is at rest, not faulted, and holds no train (60 R230, 10 R54 c). -/
def SuccessfulEnd (s : State) : Prop := s.phase = .idle ∧ ¬ Faulted s ∧ s.capheld = false

/-! ### Legal event histories -/

/-- A train of the form every built train has (41 R153, R150): whole bytes of ZERO and ONE, then one STOP. -/
def isCommandTrain (train : List Pulse) : Bool :=
  train.getLast? == some Pulse.stop
    && train.dropLast.all (fun p => p == Pulse.zero || p == Pulse.one)
    && train.dropLast.length % 8 == 0

/-- What the events so far leave open: the answer of the one CONFIGURE, and the handle of a train not yet released. -/
structure Scan where
  configured : Option ConfigureAnswer
  held : Option Handle
deriving DecidableEq, Repr

/-- What one event makes of it; none where 42 R190 forbids the event: (a) no second CONFIGURE, nothing after a failed one;
(b) no TRANSMIT and no CAPTURE before a CONFIGURE with answer ok; (c) a train is released by the next event, and nothing
else is; (e) a TRANSMIT carries a command train; (f) a CAPTURE carries the timeout 100. -/
def Scan.event (sc : Scan) : Event → Option Scan
  | .configure _ answer =>
    if sc.configured = none ∧ sc.held = none then some { sc with configured := some answer } else none
  | .transmit _ train =>
    if sc.configured = some .ok ∧ sc.held = none ∧ isCommandTrain train = true then some sc else none
  | .capture _ timeout answer =>
    if sc.configured = some .ok ∧ sc.held = none ∧ timeout = 100 then
      match answer with
      | .noTrain => some sc
      | .train h _ => some { sc with held := some h }
    else none
  | .release h => if sc.held = some h then some { sc with held := none } else none

/-- What a history leaves open, none if some event of it is forbidden. -/
def Scan.events (sc : Scan) : List Event → Option Scan
  | [] => some sc
  | e :: rest =>
    match sc.event e with
    | some sc' => sc'.events rest
    | none => none

/-- Nothing configured and nothing held: what reset leaves. -/
def Scan.start : Scan := ⟨none, none⟩

/-- The history that 42 R190 allows. -/
def LegalHistory (history : List Event) : Prop := (Scan.start.events history).isSome = true

/-- What INITED, FATAL, CAPHELD and CAPH say of the history. -/
def State.scan (s : State) : Scan where
  configured := if s.inited then some .ok else if s.fatal then some .fail else none
  held := if s.capheld then s.caph else none

/-! ### What an accepted operation leaves -/

/-- `s` as an accepted operation leaves it, but for its own results: ERR NONE, PHASE IDLE, completion signalled, the
transients, RLEN and RPT hold no value, and the operation's events are appended (42 R176, R178, R184, R186). The wires stay
(log 13). -/
def afterOperation (events : List Event) (s : State) : State :=
  { s with
    err := .noError, phase := .idle, curop := none, pinr := none, cmdlen := none, cmd := [], tx := [], txlen := none
    caph := none, capcnt := none, rlen := none, rpt := [], signal := some .completed
    history := s.history ++ events }

/-- What ACCEPT and SETUP leave of an accepted operation that goes on (42 R178, R179): CUROP, PINR, ERR NONE, the command of
SEND and XFER in CMDLEN and CMD, RLEN and RPT hold no value, the first PHASE of the path; nothing else but the setup step's
own writes. -/
def afterAccept (op : TransceiverOp) (pin : Pin) (command : Option (List Byte)) (first : Phase) (s : State) : State :=
  { s with
    curop := some op, pinr := some pin, err := .noError, rlen := none, rpt := [], phase := first
    cmdlen := (command.map List.length).or s.cmdlen, cmd := memWrite s.cmd 0 (command.getD []) }

/-- The pin that an event names (43 R208). -/
def Event.pin? : Event → Option Pin
  | .configure pin _ => some pin
  | .transmit pin _ => some pin
  | .capture pin _ _ => some pin
  | .release _ => none

/-- The event is a CONFIGURE. -/
def Event.isConfigure : Event → Bool
  | .configure _ _ => true
  | .transmit _ _ => false
  | .capture _ _ _ => false
  | .release _ => false

/-- The pin operand of a transceiver operation (30 R115). -/
def instrPin? : Instr → Option Pin
  | .init pin => some pin
  | .send pin _ _ => some pin
  | .recv pin => some pin
  | .xfer pin _ _ => some pin
  | .enc _ => none
  | .dec _ => none
  | .reserved000 => none
  | .reserved111 => none
  | .zero _ => none
  | .one _ => none
  | .stop _ => none

/-! ### The invariant -/

/-- Exactly the elements below `len` hold a value; none does where `len` holds no value. -/
def FilledTo {α : Type} (m : Memory α) (len : Option Nat) : Prop :=
  ∀ k, (m.read k).isSome = true ↔ ∃ n, len = some n ∧ k < n

/-- What holds at each PHASE (42 R177 to R184, 10 R50): in IDLE the transients hold no value; in every other PHASE the
setup is done, and each state has what its action reads. -/
def AtPhase (s : State) : Prop :=
  match s.phase with
  | .idle => s.curop = none ∧ s.pinr = none ∧ s.cmdlen = none ∧ s.txlen = none
  | .sending =>
    s.inited = true ∧ (s.curop = some .send ∨ s.curop = some .xfer) ∧ s.pinr ≠ none ∧ s.cmdlen ≠ none ∧ s.rlen = none
  | .awaitingResponse =>
    s.inited = true ∧ (s.curop = some .recv ∨ s.curop = some .xfer) ∧ s.pinr ≠ none ∧ s.rlen = none
  | .decoding => s.inited = true ∧ s.capheld = true ∧ s.rlen = none
  | .timeout => s.inited = true ∧ s.rlen = none
  | .done => s.inited = true

/-- The invariant of the block: the widths of an instance (00 R13, R15), 10 R54 (b) to (f), R50 (transients), R41 to R43
(what is held), R44 (the report), R33 (E_BUSY is never stored), the canonical form of the buffers, and 42 R190 tied to the
flags. -/
structure BlockInvariant (s : State) : Prop where
  /-- 00 R13, R15. -/
  widthsLegal : s.widths.legal = true
  /-- 10 R37: PINR has PIN_W bits. -/
  pinrFits : ∀ pin, s.pinr = some pin → Pin.fits s.widths.pinW pin = true
  /-- 10 R40, 00 R13: the pulses of TX have DUR_W-bit durations. -/
  txFits : ∀ k p, s.tx.read k = some p → p.fits s.widths.durW = true
  /-- 10 R43, 00 R13: so have the captured ones. -/
  rxFits : ∀ p ∈ s.rx, p.fits s.widths.durW = true
  /-- 10 R45, 00 R13: so have those on the wires. -/
  decInFits : s.decIn.fits s.widths.durW = true
  /-- 10 R54 b. -/
  flags : ¬ (s.inited = true ∧ s.fatal = true)
  /-- 10 R33. -/
  errStored : s.err ≠ .eBusy
  /-- 10 R54 c, d. -/
  heldWhen : s.capheld = true → s.phase = .decoding
  /-- 10 R41 to R43: what is held while a train is, and that nothing is while none is. -/
  held : if s.capheld then s.caph ≠ none ∧ s.capcnt = some s.rx.length
    else s.caph = none ∧ s.capcnt = none ∧ s.rx = []
  /-- 10 R54 e. -/
  rlenLegal : ∀ n, s.rlen = some n → n = 0 ∨ n = 1 ∨ n = 3 ∨ n = 8
  /-- 10 R54 f. -/
  txlenLegal : ∀ t, s.txlen = some t → ∃ n, s.cmdlen = some n ∧ t = 8 * n + 1
  /-- 10 R38. -/
  cmdlenLegal : ∀ n, s.cmdlen = some n → n ≤ Config.cmdMax
  /-- 10 R39. -/
  cmdFilled : FilledTo s.cmd s.cmdlen
  /-- 10 R40. -/
  txFilled : FilledTo s.tx s.txlen
  /-- 10 R44. -/
  rptFilled : FilledTo s.rpt s.rlen
  /-- The canonical form of the three buffers. -/
  canonical : s.cmd.wf = true ∧ s.tx.wf = true ∧ s.rpt.wf = true
  /-- 42 R177 to R184. -/
  atPhase : AtPhase s
  /-- 42 R190. -/
  historyLegal : Scan.start.events s.history = some s.scan

end Sys2Proof.Machine
end

