-- ==== Sys2Proof/Certificates/Slice0/Obligations.lean ====
section
/-! DEFINITION. The statements for the provers. Where a docstring says "the spec's decision D<n>" or "derived", the rule is
marked so in spec/ and the statement's basis is 'derived'. Where a whole next state is given, that the wires ENC_IN and
DEC_IN stay under an operation other than ENC and DEC is the model's choice (log 13), and so is the field signal (log 14). -/

open Sys2Proof Sys2Proof.Machine

/-! ## Encodings -/

/-- 30 R102, R101 (the spec's decision D4 for the word): the fields of the three canonical pulses and their words at the
spec's default duration width 15. -/
def Obligations.CanonicalPulseFieldsAndWords : Prop :=
  Pulse.zero = ⟨3, false, 1, true⟩ ∧ Pulse.zero.toWord Widths.table.durW = 0x80010003 ∧
  Pulse.one = ⟨1, false, 3, true⟩ ∧ Pulse.one.toWord Widths.table.durW = 0x80030001 ∧
  Pulse.stop = ⟨2, false, 2, true⟩ ∧ Pulse.stop.toWord Widths.table.durW = 0x80020002

/-- 30 R101 (the spec's decision D4): at every duration width the word is the formula's sum, it has 2w + 2 bits, and the
layout loses nothing in either direction. -/
def Obligations.PulseWordLayoutAtEveryWidth : Prop :=
  ∀ w : Nat,
    (∀ p : Pulse, p.toWord w = p.loDur + p.loLvl.toNat * 2 ^ w + p.hiDur * 2 ^ (w + 1) + p.hiLvl.toNat * 2 ^ (2 * w + 1)) ∧
    (∀ p : Pulse, p.fits w = true → p.toWord w < 2 ^ (2 * w + 2) ∧ Pulse.ofWord w (p.toWord w) = p) ∧
    (∀ x : Nat, (Pulse.ofWord w x).fits w = true ∧ (Pulse.ofWord w x).toWord w = x % 2 ^ (2 * w + 2))

/-- 30 R114, R102 (the spec's decision D11 for the codes): the words of spec/opcode_table.json, all operand ports at zero,
decode to their rows. The wire DEC_IN[0] of the pulse words is the model's choice (log 11, log 12). -/
def Obligations.TableWordsDecodeToTheirRows : Prop :=
  decodeTableWord 8 0b001 = some (.enc 0) ∧ decodeTableWord 8 0b010 = some (.dec default) ∧
  decodeTableWord 8 0b011 = some (.init 0) ∧ decodeTableWord 8 0b100 = some (.send 0 0 []) ∧
  decodeTableWord 8 0b101 = some (.recv 0) ∧ decodeTableWord 8 0b110 = some (.xfer 0 0 []) ∧
  decodeTableWord 8 0b000 = some .reserved000 ∧ decodeTableWord 8 0b111 = some .reserved111 ∧
  decodeTableWord 32 0x80010003 = some (.zero 0) ∧ decodeTableWord 32 0x80030001 = some (.one 0) ∧
  decodeTableWord 32 0x80020002 = some (.stop 0)

/-- 30 R114, R115, R102, R111 (the spec's decision D11): DECODE AND ENCODE AGREE on an instance of any widths, for every
instruction with every operand at every value. Decoding what the encoder puts on the ports gives the instruction back
exactly when its operands fit the ports and a command is N bytes. Whatever decodes to an instruction is well formed and
carries the number on the ports that the instruction's encoding carries, so no two rows share a presentation; everything
else is a pulse word of no row, and decodes to its pulse. At the table's widths the number is the row's. -/
def Obligations.DecodeAndEncodeAgree : Prop :=
  (∀ W : Widths, W.legal = true →
    (∀ i : Instr, decode W (encode W i) = .instr i ↔ i.wf W = true) ∧
    (∀ (p : Presented) (i : Instr), decode W p = .instr i →
      i.wf W = true ∧ p.tableNumber W = (encode W i).tableNumber W ∧ decode W (encode W i) = .instr i) ∧
    (∀ (p : Presented) (slot : Fin 8) (q : Pulse), decode W p = .pulse slot q →
      (∃ x, p = .pulseWord slot x ∧ q = Pulse.ofWord W.durW x) ∧ q ≠ Pulse.zero ∧ q ≠ Pulse.one ∧ q ≠ Pulse.stop)) ∧
  ∀ i : Instr, (encode Widths.table i).tableNumber Widths.table = i.tableMatch

/-! ## The codec -/

/-- 40 R130: ONE for a set bit, ZERO for a clear one, with the fields in full, and never STOP. -/
def Obligations.BitToPulseIsOneOrZeroNeverStop : Prop :=
  bitToPulse true = ⟨1, false, 3, true⟩ ∧ bitToPulse false = ⟨3, false, 1, true⟩ ∧
  ∀ b : Bool, bitToPulse b ≠ Pulse.stop

/-- 40 R135: 1 exactly when the low duration is less than the high one, as unsigned numbers. -/
def Obligations.PulseToBitIsStrictlyLess : Prop :=
  ∀ p : Pulse, pulseToBit p = true ↔ p.loDur < p.hiDur

/-- 40 R137: the tie reads 0, so STOP and (0, 0) read 0. -/
def Obligations.TieReadsZero : Prop :=
  (∀ p : Pulse, p.loDur = p.hiDur → pulseToBit p = false) ∧ pulseToBit Pulse.stop = false ∧
  ∀ lo hi : Bool, pulseToBit ⟨0, lo, 0, hi⟩ = false

/-- 40 R131: pulse j of encodeByte(value) is the pulse of bit 7 - j, all eight of them, none is STOP; the worked examples;
and ENC's code is 001. (That the operation ENC writes no state and makes no event: CodecOperationsWriteNoState and
CodecOperationsCompleteAtTheIdlePort.) -/
def Obligations.EncodeByteIsMostSignificantBitFirst : Prop :=
  (∀ value : Byte,
    (encodeByte value).toList.length = 8 ∧
    ∀ j : Fin 8, (encodeByte value).get j = (if value.getLsbD (7 - j.val) then Pulse.one else Pulse.zero) ∧
      (encodeByte value).get j ≠ Pulse.stop) ∧
  (encodeByte 0x00#8).toList = List.replicate 8 Pulse.zero ∧
  (encodeByte 0xFF#8).toList = List.replicate 8 Pulse.one ∧
  (encodeByte 0xA5#8).toList = [.one, .zero, .one, .zero, .zero, .one, .zero, .one] ∧
  ∀ (W : Widths) (value : Byte), (encode W (.enc value)).tableNumber W = 0b001

/-- 40 R132 (derived): the results of ENC are groups of ZERO and ONE only, which fit every legal duration width, and
different bytes give different results. -/
def Obligations.EncodeByteIsInjectiveIntoZeroAndOne : Prop :=
  (∀ (value : Byte) (j : Fin 8), (encodeByte value).get j = Pulse.zero ∨ (encodeByte value).get j = Pulse.one) ∧
  (∀ (w : Nat) (value : Byte), 2 ≤ w → (encodeByte value).fits w = true) ∧
  ∀ a b : Byte, encodeByte a = encodeByte b → a = b

/-- 40 R134 (derived): position j of the result depends on bit 7 - j of the value and on nothing else, and does depend on
it. -/
def Obligations.EncodePositionsAreIndependent : Prop :=
  ∀ (a b : Byte) (j : Fin 8),
    (encodeByte a).get j = (encodeByte b).get j ↔ a.getLsbD (7 - j.val) = b.getLsbD (7 - j.val)

/-- 40 R136: bit 7 - j of decodeByte is the bit of pulse j, the byte is the sum of b_j·2^(7-j); the worked example; and
DEC's code is 010. (That the operation DEC writes no state and makes no event: CodecOperationsWriteNoState and
CodecOperationsCompleteAtTheIdlePort.) -/
def Obligations.DecodeByteComparesDurations : Prop :=
  (∀ g : PulseGroup,
    (∀ j : Fin 8, (decodeByte g).getLsbD (7 - j.val) = decide ((g.get j).loDur < (g.get j).hiDur)) ∧
    (decodeByte g).toNat = ((List.finRange 8).map fun j => (pulseToBit (g.get j)).toNat * 2 ^ (7 - j.val)).sum) ∧
  decodeByte ⟨⟨1, false, 3, true⟩, ⟨3, false, 1, true⟩, ⟨1, false, 3, true⟩, ⟨3, false, 1, true⟩, ⟨3, false, 1, true⟩,
    ⟨1, false, 3, true⟩, ⟨3, false, 1, true⟩, ⟨1, false, 3, true⟩⟩ = 0xA5#8 ∧
  ∀ (W : Widths) (pulses : PulseGroup), (encode W (.dec pulses)).tableNumber W = 0b010

/-- 40 R131, R136, R133, R141 (log 13 for the wires in State and for a refused ENC or DEC, log 14 for the signal: the
model's choices): in every state, a busy block included, ENC and DEC change no register, no flag, no buffer and no event;
only their own input wires and the port's report. -/
def Obligations.CodecOperationsWriteNoState : Prop :=
  (∀ (value : Byte) (s t : State), exec (.enc value) s = .next t →
    t.encOut = encodeByte value ∧ t = { s with encIn := value, signal := t.signal }) ∧
  ∀ (pulses : PulseGroup) (s t : State), exec (.dec pulses) s = .next t →
    t.decOut = decodeByte pulses ∧ t = { s with decIn := pulses, signal := t.signal }

/-- 40 R133, R141 (the spec's decision D32; the wires and the signal in State are the model's, log 13, log 14): at an idle
block ENC and DEC complete at once, whatever FATAL and INITED are, with the result on the output wires and no register,
flag or event changed. -/
def Obligations.CodecOperationsCompleteAtTheIdlePort : Prop :=
  ∀ s : State, s.phase = .idle →
    (∀ value : Byte, ∃ t, exec (.enc value) s = .next t ∧ t.encOut = encodeByte value ∧
      t = { s with encIn := value, signal := some .completed }) ∧
    ∀ pulses : PulseGroup, ∃ t, exec (.dec pulses) s = .next t ∧ t.decOut = decodeByte pulses ∧
      t = { s with decIn := pulses, signal := some .completed }

/-- 40 R138, R140 (R138 derived): the byte depends only on which duration of each pulse is smaller; levels and exact
durations do not matter. -/
def Obligations.DecodeByteSeesOnlyWhichDurationIsSmaller : Prop :=
  ∀ g h : PulseGroup,
    decodeByte g = decodeByte h ↔
      ∀ j : Fin 8, ((g.get j).loDur < (g.get j).hiDur ↔ (h.get j).loDur < (h.get j).hiDur)

/-- 40 R139, 93 U1 (the spec's decision D17): a sequence is an operand of DEC exactly when it has eight pulses. -/
def Obligations.OnlyEightPulsesAreAnOperand : Prop :=
  ∀ l : List Pulse,
    (l.length = 8 → ∃ g, Eight.ofList? l = some g ∧ g.toList = l) ∧ (l.length ≠ 8 → Eight.ofList? l = none)

/-- 40 R142: the round trip, and its converse only for groups of exactly ZERO and ONE pulses. -/
def Obligations.DecodeOfEncodeByteRoundTrip : Prop :=
  (∀ b : Byte, decodeByte (encodeByte b) = b) ∧
  ∀ g : PulseGroup, encodeByte (decodeByte g) = g ↔ ∀ j : Fin 8, g.get j = Pulse.zero ∨ g.get j = Pulse.one

/-- 10 R45, 30 R101 (log 11: a table row that is a data value, driven on one DEC_IN wire, is the model's choice): the wire
carries the row's pulse and the other seven carry what they did, so bit 7 - slot of DEC_OUT reads the pulse (ZERO and STOP
0, ONE 1) and the other bits stay; nothing else of the state changes, in any PHASE. -/
def Obligations.PulseWordDrivesOneDecoderWire : Prop :=
  ∀ (slot : Fin 8) (s : State),
    (∃ t, exec (.zero slot) s = .next t ∧ t = { s with decIn := t.decIn } ∧
      (∀ j : Fin 8, t.decIn.get j = if j = slot then Pulse.zero else s.decIn.get j) ∧
      ∀ j : Fin 8, t.decOut.getLsbD (7 - j.val) = if j = slot then false else s.decOut.getLsbD (7 - j.val)) ∧
    (∃ t, exec (.one slot) s = .next t ∧ t = { s with decIn := t.decIn } ∧
      (∀ j : Fin 8, t.decIn.get j = if j = slot then Pulse.one else s.decIn.get j) ∧
      ∀ j : Fin 8, t.decOut.getLsbD (7 - j.val) = if j = slot then true else s.decOut.getLsbD (7 - j.val)) ∧
    (∃ t, exec (.stop slot) s = .next t ∧ t = { s with decIn := t.decIn } ∧
      (∀ j : Fin 8, t.decIn.get j = if j = slot then Pulse.stop else s.decIn.get j) ∧
      ∀ j : Fin 8, t.decOut.getLsbD (7 - j.val) = if j = slot then false else s.decOut.getLsbD (7 - j.val))

/-- 30 R111, 10 R45, 40 R141 (log 11, log 12: that a lone pulse word is presented on a wire is the model's choice): EVERY
pulse word is legal on a wire of DEC_IN, whatever its durations and levels; a step puts its pulse on that wire, DEC_OUT is
decodeByte of what then stands on the eight wires, nothing else changes, in any PHASE, and nothing is refused. -/
def Obligations.EveryPulseWordIsLegalOnItsWire : Prop :=
  ∀ (s : State) (slot : Fin 8) (x : Nat) (rest : List Presented), s.presented = .pulseWord slot x :: rest →
    ∃ t, step s = .next t ∧ seqStep s = .next t ∧ t = { s with presented := rest, decIn := t.decIn } ∧
      (∀ j : Fin 8, t.decIn.get j = if j = slot then Pulse.ofWord s.widths.durW x else s.decIn.get j) ∧
      t.decOut = decodeByte t.decIn

/-! ## Builder, classifier, slicer -/

/-- 41 R150: the train of N bytes has 8N + 1 pulses, element 8i + j the pulse of bit 7 - j of byte i, element 8N the STOP
pulse (lo_dur 2, lo_lvl 0, hi_dur 2, hi_lvl 1). -/
def Obligations.BuildTrainElements : Prop :=
  ∀ command : List Byte,
    (buildTrain command).length = 8 * command.length + 1 ∧
    (∀ (i : Nat) (b : Byte) (j : Fin 8), command[i]? = some b →
      (buildTrain command)[8 * i + j.val]? = some (bitToPulse (b.getLsbD (7 - j.val)))) ∧
    (buildTrain command)[8 * command.length]? = some ⟨2, false, 2, true⟩

/-- 41 R153 (derived): every element of a built train is ZERO, ONE or STOP with levels 0 and 1, and STOP stands at the
last position and at no other. -/
def Obligations.BuiltTrainHasOneStopAtItsEnd : Prop :=
  ∀ (command : List Byte) (k : Nat) (p : Pulse), (buildTrain command)[k]? = some p →
    (p = Pulse.zero ∨ p = Pulse.one ∨ p = Pulse.stop) ∧ p.loLvl = false ∧ p.hiLvl = true ∧
    (p = Pulse.stop ↔ k = 8 * command.length)

/-- 41 R154, R155: the class is R1 exactly at 9, R3 exactly at 25, R8 exactly from 90 on, NONE at every other count. -/
def Obligations.ClassifyByCountAlone : Prop :=
  ∀ count : Nat,
    (classify count = .r1 ↔ count = 9) ∧ (classify count = .r3 ↔ count = 25) ∧ (classify count = .r8 ↔ 90 ≤ count) ∧
    (classify count = .unrecognized ↔ count ≠ 9 ∧ count ≠ 25 ∧ count < 90)

/-- 41 R156, R157: RLEN bytes by the class, byte k decoded from the pulses [BASE + 8k .. BASE + 8k + 8), for a
train of every count, and the pseudocode never lacks a pulse. -/
def Obligations.DecodeFrameSlices : Prop :=
  ∀ P : List Pulse,
    decodeFrame? P.length P = some (decodeFrame P) ∧
    (decodeFrame P).2.length = (decodeFrame P).1 ∧
    (P.length = 9 → (decodeFrame P).1 = 1 ∧
      ∀ k, k < 1 → ∃ g, g.toList = (P.drop (8 * k)).take 8 ∧ (decodeFrame P).2[k]? = some (decodeByte g)) ∧
    (P.length = 25 → (decodeFrame P).1 = 3 ∧
      ∀ k, k < 3 → ∃ g, g.toList = (P.drop (8 * k)).take 8 ∧ (decodeFrame P).2[k]? = some (decodeByte g)) ∧
    (90 ≤ P.length → (decodeFrame P).1 = 8 ∧
      ∀ k, k < 8 → ∃ g, g.toList = (P.drop (25 + 8 * k)).take 8 ∧ (decodeFrame P).2[k]? = some (decodeByte g)) ∧
    (P.length ≠ 9 → P.length ≠ 25 → P.length < 90 → decodeFrame P = (0, []))

/-- 41 R159, 30 R112 (derived): the report depends on no pulse outside the ranges read, on no level, on no exact duration,
and on the count only through its class. -/
def Obligations.DecodeFrameIgnoresUnreadPulses : Prop :=
  ∀ P Q : List Pulse, classify P.length = classify Q.length →
    (∀ k, (classify P.length).base ≤ k → k < (classify P.length).base + 8 * (classify P.length).rlen →
      ∀ p q, P[k]? = some p → Q[k]? = some q → pulseToBit p = pulseToBit q) →
    decodeFrame P = decodeFrame Q

/-- 41 R150, R157, 40 R142 (derived): a train that carries the canonical pulses of n bytes where the class of its count
reads them decodes to those bytes, whatever stands elsewhere; a command train of 1 or 3 bytes reads back as its command. -/
def Obligations.CanonicalReportDecodesToItsBytes : Prop :=
  (∀ (pre post : List Pulse) (bytes : List Byte),
    pre.length = (classify (pre.length + 8 * bytes.length + post.length)).base →
    bytes.length = (classify (pre.length + 8 * bytes.length + post.length)).rlen →
    decodeFrame (pre ++ bytes.flatMap (fun b => (encodeByte b).toList) ++ post) = (bytes.length, bytes)) ∧
  ∀ command : List Byte, command.length = 1 ∨ command.length = 3 →
    decodeFrame (buildTrain command) = (command.length, command)

/-! ## Operations at the port -/

/-- 60 R225, R228 (the spec's decisions D13, D15; 93 U3 allows the move): any operation presented while PHASE != IDLE is
reported E_BUSY at the port and disturbs nothing, ERR included. The model's choices: a refusal answers a next state (DEDUCED,
log 9), the port's report is the field signal (log 14), ENC and DEC drive their operand's wires all the same (DEDUCED, log
13). -/
def Obligations.BusyBlockRefusesEveryOperation : Prop :=
  ∀ s : State, s.phase ≠ .idle →
    (∀ i : Instr, (∃ pin, instrPin? i = some pin) ∨ i = .reserved000 ∨ i = .reserved111 →
      exec i s = .next { s with signal := some (.refused .eBusy) }) ∧
    (∀ value, exec (.enc value) s = .next { s with encIn := value, signal := some (.refused .eBusy) }) ∧
    (∀ pulses, exec (.dec pulses) s = .next { s with decIn := pulses, signal := some (.refused .eBusy) })

/-- 30 R116, 60 R225 (the spec's decisions D11, D13): a reserved code at the idle port is refused with E_OP, whatever FATAL
is: ERR takes the code, no other state changes and there is no event. That a refusal answers a next state, where R225 also
says that a model treats it as a refusal, is the model's choice (DEDUCED, log 9), and so is the field signal (log 14). -/
def Obligations.ReservedCodesAreRefusedWithEOp : Prop :=
  ∀ s : State, s.phase = .idle →
    exec .reserved000 s = .next { s with err := .eOp, signal := some (.refused .eOp) } ∧
    exec .reserved111 s = .next { s with err := .eOp, signal := some (.refused .eOp) }

/-- 60 R225, R228, 10 R32 (the spec's decisions D13, D14): with FATAL = 1 every transceiver operation at the idle port is
refused with E_FATAL, also one with N > CMD_MAX; only ERR changes and there is no event. That a refusal answers a next
state is the model's choice (DEDUCED, log 9, against R225's last sentence), and so is the field signal (log 14). -/
def Obligations.FatalBlockRefusesTransceiverOperations : Prop :=
  ∀ (s : State) (i : Instr) (pin : Pin), s.phase = .idle → s.fatal = true → instrPin? i = some pin →
    exec i s = .next { s with err := .eFatal, signal := some (.refused .eFatal) }

/-- 42 R178, 60 R225 (the spec's decisions D7, D13): SEND and XFER with N > CMD_MAX at an idle block with FATAL = 0 are
refused with E_LEN; only ERR changes and nothing is sent. That a refusal answers a next state is the model's choice
(DEDUCED, log 9, against R225's last sentence), and so is the field signal (log 14). -/
def Obligations.OverlongCommandIsRefusedWithELen : Prop :=
  ∀ (s : State) (pin : Pin) (n : Nat) (command : List Byte),
    s.phase = .idle → s.fatal = false → Config.cmdMax < n →
    exec (.send pin n command) s = .next { s with err := .eLen, signal := some (.refused .eLen) } ∧
    exec (.xfer pin n command) s = .next { s with err := .eLen, signal := some (.refused .eLen) }

/-- 42 R171, R185, 60 R223, R229 (the spec's decision D14): when the environment answers fail to the first configure, each
of the four operations takes the exception: FATAL 1, INITED 0, ERR E_HWCFG, PHASE IDLE, report and transients hold no
value, one CONFIGURE event and nothing after it, nothing built, sent or captured. -/
def Obligations.ConfigureFailureTakesTheException : Prop :=
  ∀ (s : State) (pin : Pin) (n : Nat) (command : List Byte) (rest : List ConfigureAnswer) (i : Instr),
    s.phase = .idle → s.fatal = false → s.inited = false → s.configureAnswers = .fail :: rest →
    command.length = n → n ≤ Config.cmdMax →
    i = .init pin ∨ i = .send pin n command ∨ i = .recv pin ∨ i = .xfer pin n command →
    exec i s = .next { s with
      fatal := true, err := .eHwcfg, phase := .idle, curop := none, pinr := none, cmdlen := none, cmd := [], tx := []
      txlen := none, caph := none, capcnt := none, rlen := none, rpt := [], signal := some .failed
      history := s.history ++ [.configure pin .fail], configureAnswers := rest }

/-- 42 R171, R172, 10 R31 (the spec's decision D11 for INIT as an operation): INIT configures once and sets INITED in the
same step; with INITED = 1 it makes no event, whatever the pin is (R192, the spec's decision D3). -/
def Obligations.InitConfiguresOnce : Prop :=
  ∀ (s : State) (pin : Pin), s.phase = .idle → s.fatal = false →
    (∀ rest, s.inited = false → s.configureAnswers = .ok :: rest →
      exec (.init pin) s =
        .next { afterOperation [.configure pin .ok] s with inited := true, configureAnswers := rest }) ∧
    (s.inited = true → exec (.init pin) s = .next (afterOperation [] s))

/-- 42 R173, R171: SEND with the setup done makes one TRANSMIT of the built train to its pin and nothing else; the first
SEND after reset makes the CONFIGURE before it. The registers are left as `afterOperation` says (R178, R186 are the
spec's decisions). -/
def Obligations.SendTransmitsTheBuiltTrain : Prop :=
  ∀ (s : State) (pin : Pin) (n : Nat) (command : List Byte),
    s.phase = .idle → s.fatal = false → command.length = n → n ≤ Config.cmdMax →
    (s.inited = true →
      exec (.send pin n command) s = .next (afterOperation [.transmit pin (buildTrain command)] s)) ∧
    (∀ rest, s.inited = false → s.configureAnswers = .ok :: rest →
      exec (.send pin n command) s =
        .next { afterOperation [.configure pin .ok, .transmit pin (buildTrain command)] s with
          inited := true, configureAnswers := rest })

/-- 42 R174, R171, 60 R221, R222, 43 R203 (the registers and the scripted answers: the spec's decisions D14, D16, D26, log
4): RECV, the CONFIGURE before it where the setup was not done, for the answer the environment scripts. No train leaves
RLEN = 0, no report and no RELEASE; a train leaves the decoded report and exactly one RELEASE of its handle, also when its
length is unrecognized. A train has durations of the instance's width (00 R13). -/
def Obligations.RecvDecodesAndReleases : Prop :=
  ∀ (s : State) (pin : Pin) (setup : List Event) (configures : List ConfigureAnswer) (rest : List CaptureAnswer),
    s.phase = .idle → s.fatal = false →
    (s.inited = true ∧ setup = [] ∧ configures = s.configureAnswers) ∨
      (s.inited = false ∧ setup = [.configure pin .ok] ∧ s.configureAnswers = .ok :: configures) →
    (s.captureAnswers = .noTrain :: rest →
      exec (.recv pin) s = .next { afterOperation (setup ++ [.capture pin 100 .noTrain]) s with
        inited := true, rlen := some 0, configureAnswers := configures, captureAnswers := rest }) ∧
    (∀ h train, s.captureAnswers = .train h train :: rest → (∀ p ∈ train, p.fits s.widths.durW = true) →
      exec (.recv pin) s = .next { afterOperation (setup ++ [.capture pin 100 (.train h train), .release h]) s with
        inited := true, rlen := some (decodeFrame train).1, rpt := memWrite [] 0 (decodeFrame train).2
        capheld := false, rx := [], configureAnswers := configures, captureAnswers := rest })

/-- 42 R175, R171, R190 d (the registers and the scripted answers: the spec's decisions D14, D16, D26, log 4): XFER, the
CONFIGURE before it where the setup was not done, for the answer the environment scripts: one TRANSMIT, then at once one
CAPTURE with the timeout 100, then the RELEASE where a train was captured; the report is RECV's. A train has durations of
the instance's width (00 R13). -/
def Obligations.XferSendsThenReceives : Prop :=
  ∀ (s : State) (pin : Pin) (n : Nat) (command : List Byte) (setup : List Event) (configures : List ConfigureAnswer)
    (rest : List CaptureAnswer),
    s.phase = .idle → s.fatal = false → command.length = n → n ≤ Config.cmdMax →
    (s.inited = true ∧ setup = [] ∧ configures = s.configureAnswers) ∨
      (s.inited = false ∧ setup = [.configure pin .ok] ∧ s.configureAnswers = .ok :: configures) →
    (s.captureAnswers = .noTrain :: rest →
      exec (.xfer pin n command) s =
        .next { afterOperation (setup ++ [.transmit pin (buildTrain command), .capture pin 100 .noTrain]) s with
          inited := true, rlen := some 0, configureAnswers := configures, captureAnswers := rest }) ∧
    (∀ h train, s.captureAnswers = .train h train :: rest → (∀ p ∈ train, p.fits s.widths.durW = true) →
      exec (.xfer pin n command) s =
        .next { afterOperation
            (setup ++ [.transmit pin (buildTrain command), .capture pin 100 (.train h train), .release h]) s with
          inited := true, rlen := some (decodeFrame train).1, rpt := memWrite [] 0 (decodeFrame train).2
          capheld := false, rx := [], configureAnswers := configures, captureAnswers := rest })

/-- 43 R204, 42 R174, R175 (the answer is any value, scripted or free, log 4; that the wires ENC_IN and DEC_IN stay is the
model's choice, DESIGN CHOICE, log 13, and so is the field signal, log 14): with the setup done, RECV and XFER answer a next
state for every answer of the capture interface; the history and the report are what that answer gives, element by
element of RPT, completion is signalled, a train is held no longer, and INITED, FATAL and the wires are as before. -/
def Obligations.ReceiveForEveryCaptureAnswer : Prop :=
  ∀ (s : State) (pin : Pin) (n : Nat) (command : List Byte) (i : Instr) (sent : List Event),
    s.phase = .idle → s.fatal = false → s.inited = true → command.length = n → n ≤ Config.cmdMax →
    (i = .recv pin ∧ sent = []) ∨ (i = .xfer pin n command ∧ sent = [.transmit pin (buildTrain command)]) →
    ∃ (t : State) (answer : CaptureAnswer),
      exec i s = .next t ∧ answer = (drawCapture s).1 ∧ t.phase = .idle ∧ t.err = .noError ∧
      t.inited = true ∧ t.fatal = false ∧ t.encIn = s.encIn ∧ t.decIn = s.decIn ∧ t.signal = some .completed ∧
      match answer with
      | .noTrain =>
        t.capheld = s.capheld ∧ t.history = s.history ++ sent ++ [.capture pin 100 .noTrain] ∧
        t.rlen = some 0 ∧ ∀ k, t.rpt.read k = none
      | .train h train =>
        t.history = s.history ++ sent ++ [.capture pin 100 (.train h train), .release h] ∧ t.capheld = false ∧
        t.rlen = some (decodeFrame train).1 ∧ ∀ k, t.rpt.read k = (decodeFrame train).2[k]?

/-- 30 R119, 42 R175, R189: XFER is SEND then RECV with nothing in between: where SEND completes without the exception,
XFER leaves exactly the state that RECV leaves after it, so the second setup step does nothing. -/
def Obligations.XferIsSendThenRecv : Prop :=
  ∀ (s t : State) (pin : Pin) (n : Nat) (command : List Byte),
    command.length = n → n ≤ Config.cmdMax → exec (.send pin n command) s = .next t → t.fatal = false →
    exec (.xfer pin n command) s = exec (.recv pin) t

/-- 60 R220, R228 and 10 R53: every well-formed instruction answers a next state in every state, whatever the environment
answers; a stop is never the end of an operation. That a refusal answers a next state is the model's choice (DEDUCED, log 9,
against R225's last sentence), and that the exception does is log 10. -/
def Obligations.EveryWellFormedInstructionAnswersNext : Prop :=
  ∀ (i : Instr) (s : State), i.wf s.widths = true → ∃ t, exec i s = .next t

/-- 60 R220, R230, 42 R176 (R230 is the spec's decision D14): from a state of the invariant, an accepted transceiver
operation ends either as a success, at rest with ERR = NONE and nothing held, or faulted, with E_HWCFG and the failed
CONFIGURE as its only event. -/
def Obligations.OperationEndsInSuccessOrFault : Prop :=
  ∀ (s : State) (i : Instr) (pin : Pin), BlockInvariant s → s.phase = .idle → s.fatal = false → instrPin? i = some pin →
    i.wf s.widths = true → (∀ p n c, i = .send p n c ∨ i = .xfer p n c → n ≤ Config.cmdMax) →
    ∃ t, exec i s = .next t ∧
      ((SuccessfulEnd t ∧ t.err = .noError ∧ t.inited = true ∧ t.signal = some .completed) ∨
       (Faulted t ∧ t.phase = .idle ∧ t.err = .eHwcfg ∧ t.inited = false ∧ t.signal = some .failed ∧
        t.history = s.history ++ [.configure pin .fail]))

/-! ## The state machine -/

/-- 42 R178, R179 (the spec's decisions D13, D15, D26): ACCEPT AND SETUP, for each of the four operations at an idle block
that passes the checks. The operands are latched: CUROP, PINR, for SEND and XFER also CMDLEN and CMD[0 .. N), which reads
back as the command and is as before above; ERR is NONE; RLEN and RPT hold no value. With the setup done there is no event;
with an answer ok the CONFIGURE is made and INITED set in the same step; PHASE is the first state of the operation's path.
With an answer fail the exception is taken from there, and no state of the path is entered (R185). -/
def Obligations.AcceptLatchesAndSetsUp : Prop :=
  ∀ (s : State) (pin : Pin) (n : Nat) (command : List Byte) (i : Instr) (op : TransceiverOp)
    (latched : Option (List Byte)) (first : Phase),
    s.phase = .idle → s.fatal = false → command.length = n → n ≤ Config.cmdMax →
    (i = .init pin ∧ op = .init ∧ latched = none ∧ first = .done) ∨
      (i = .recv pin ∧ op = .recv ∧ latched = none ∧ first = .awaitingResponse) ∨
      (i = .send pin n command ∧ op = .send ∧ latched = some command ∧ first = .sending) ∨
      (i = .xfer pin n command ∧ op = .xfer ∧ latched = some command ∧ first = .sending) →
    (s.inited = true → accept i s = .next (afterAccept op pin latched first s)) ∧
    (∀ rest, s.inited = false → s.configureAnswers = .ok :: rest →
      accept i s = .next { afterAccept op pin latched first s with
        inited := true, history := s.history ++ [.configure pin .ok], configureAnswers := rest }) ∧
    (∀ rest, s.inited = false → s.configureAnswers = .fail :: rest →
      accept i s = .next { takeHwConfigFailure s with
        history := s.history ++ [.configure pin .fail], configureAnswers := rest }) ∧
    (latched = none → (afterAccept op pin latched first s).cmdlen = s.cmdlen ∧
      (afterAccept op pin latched first s).cmd = s.cmd) ∧
    (latched = some command → (afterAccept op pin latched first s).cmdlen = some n ∧
      memRead (afterAccept op pin latched first s).cmd 0 n = some command ∧
      ∀ k, n ≤ k → (afterAccept op pin latched first s).cmd.read k = s.cmd.read k)

/-- 42 R180: SENDING builds the train of CMD into TX, element by element, leaves TX above it as it was, sets TXLEN, transmits
what TX holds to PINR, and goes to AWAITING_RESPONSE for XFER and to DONE for SEND. (That the block waits there is time, log
23.) -/
def Obligations.SendingTransition : Prop :=
  ∀ (s : State) (pin : Pin) (n : Nat) (command : List Byte) (op : TransceiverOp),
    s.phase = .sending → s.pinr = some pin → s.cmdlen = some n → memRead s.cmd 0 n = some command →
    s.curop = some op → op = .xfer ∨ op = .send →
    ∃ t, advance s = .next t ∧ memRead t.tx 0 (8 * n + 1) = some (buildTrain command) ∧
      (∀ k, 8 * n + 1 ≤ k → t.tx.read k = s.tx.read k) ∧
      t = { s with
        tx := t.tx, txlen := some (8 * n + 1), history := s.history ++ [.transmit pin (buildTrain command)]
        phase := if op = .xfer then .awaitingResponse else .done }

/-- 42 R181: AWAITING_RESPONSE performs one capture with PINR and the timeout 100; no train leads to TIMEOUT, a train is
taken over and leads to DECODING. A train has durations of the instance's width (00 R13). (That the block waits
there is time, log 23.) -/
def Obligations.AwaitingResponseTransition : Prop :=
  ∀ (s : State) (pin : Pin) (rest : List CaptureAnswer), s.phase = .awaitingResponse → s.pinr = some pin →
    (s.captureAnswers = .noTrain :: rest →
      advance s = .next { s with
        phase := .timeout, history := s.history ++ [.capture pin 100 .noTrain], captureAnswers := rest }) ∧
    (∀ h train, s.captureAnswers = .train h train :: rest → (∀ p ∈ train, p.fits s.widths.durW = true) →
      advance s = .next { s with
        phase := .decoding, capheld := true, caph := some h, capcnt := some train.length, rx := train
        history := s.history ++ [.capture pin 100 (.train h train)], captureAnswers := rest })

/-- 42 R182: TIMEOUT sets RLEN to 0 and goes to DONE; nothing else changes, no element of RPT and no release. -/
def Obligations.TimeoutTransition : Prop :=
  ∀ s : State, s.phase = .timeout → advance s = .next { s with rlen := some 0, phase := .done }

/-- 42 R183: DECODING writes the decoded bytes and RLEN, then releases the held train once and goes to DONE, the train of
unrecognized length included; RPT beyond the bytes is as it was. -/
def Obligations.DecodingTransition : Prop :=
  ∀ (s : State) (h : Handle), s.phase = .decoding → s.capcnt = some s.rx.length → s.caph = some h →
    ∃ t, advance s = .next t ∧
      (∀ k, t.rpt.read k =
        if k < (decodeFrame s.rx).1 then (decodeFrame s.rx).2[k]? else s.rpt.read k) ∧
      (s.rx.length ≠ 9 → s.rx.length ≠ 25 → s.rx.length < 90 → t.rlen = some 0 ∧ t.rpt = s.rpt) ∧
      t = { s with
        rpt := t.rpt, rlen := some (decodeFrame s.rx).1, capheld := false, caph := none, capcnt := none, rx := []
        history := s.history ++ [.release h], phase := .done }

/-- 42 R184, R186 (the spec's decision D26): DONE signals completion, returns to IDLE, and the transients hold no value
from then on; the report, ERR and the flags stay. -/
def Obligations.DoneTransition : Prop :=
  ∀ s : State, s.phase = .done →
    advance s = .next { s with
      phase := .idle, signal := some .completed, curop := none, pinr := none, cmdlen := none, cmd := [], tx := []
      txlen := none, caph := none, capcnt := none }

/-- 42 R187 (derived): THE TWO DESCRIPTIONS AGREE. For every instruction at an idle block, accepting it and running the
transitions of the state machine to IDLE gives exactly the state, the events and their order that the operation's
pseudocode gives, for every answer of the environment. -/
def Obligations.SequencerAgreesWithOperations : Prop :=
  ∀ (i : Instr) (s : State), s.phase = .idle → i.wf s.widths = true → onNext (accept i s) (settle 4) = exec i s

/-- 42 R191, 00 R29 (in a model without time, log 23, log 5, log 7): from every state of the invariant, an operation in
flight is over after at most four transitions, with PHASE back at IDLE, and the end is a state of the invariant. -/
def Obligations.EveryOperationEnds : Prop :=
  ∀ s : State, BlockInvariant s → ∃ t, settle 4 s = .next t ∧ t.phase = .idle ∧ BlockInvariant t

/-! ## The step -/

/-- 30 R113, 42 R187, 95 section 3: a step performs the operation that stands on the ports, with that presentation taken
off, and a pulse word of no row of the table stands on its wire from then on (30 R111). The form of the presentations is the
model's choice (log 11, log 12, log 18). -/
def Obligations.StepPerformsThePresentedOperation : Prop :=
  ∀ (s : State) (p : Presented) (rest : List Presented), s.presented = p :: rest →
    (∀ i, decode s.widths p = .instr i → step s = exec i { s with presented := rest }) ∧
    (∀ slot q, decode s.widths p = .pulse slot q →
      step s = .next { s with presented := rest, decIn := s.decIn.set slot q })

/-- 70 R253, 42 R180 to R184: with nothing on the ports the block waits in IDLE unchanged, and makes the next transition of
an operation in flight; the state machine does the same (the form of the presentations is the model's choice, log 18). -/
def Obligations.NothingPresentedWaitsOrGoesOn : Prop :=
  ∀ s : State, s.presented = [] →
    (s.phase = .idle → step s = .next s) ∧ (s.phase ≠ .idle → step s = advance s) ∧ seqStep s = step s

/-- 10 R54 a, R31, R32 (derived): no step clears INITED or FATAL, or changes the widths of the instance, in any state. -/
def Obligations.NoStepClearsInitedOrFatal : Prop :=
  ∀ s t : State, step s = .next t ∨ seqStep s = .next t →
    (s.inited = true → t.inited = true) ∧ (s.fatal = true → t.fatal = true) ∧ t.widths = s.widths

/-- 10 R55, 42 R171, R192, 43 R208: a step only appends to the history; once INITED is 1 no step makes a CONFIGURE; and
every event of a presented operation that names a pin names the operation's own, whichever pin was set up. -/
def Obligations.EventsAreAppendedAndCarryThePin : Prop :=
  (∀ s t : State, step s = .next t ∨ seqStep s = .next t →
    ∃ new, t.history = s.history ++ new ∧ (s.inited = true → ∀ e ∈ new, e.isConfigure = false)) ∧
  (∀ (i : Instr) (s t : State), exec i s = .next t →
    ∃ new, t.history = s.history ++ new ∧ (∀ e ∈ new, ∀ pin, e.pin? = some pin → instrPin? i = some pin))

/-- 60 R230, R225 (the spec's decision D14): from a faulted block at rest, every step leaves it faulted and at rest with no
new event and no new result, and ENC and DEC still complete. That a step answers a next state also where the operation is
refused is the model's choice (DEDUCED, log 9, against R225's last sentence), and so is the field signal (log 14). -/
def Obligations.FaultedBlockMakesNoEvent : Prop :=
  ∀ s : State, Faulted s → s.phase = .idle →
    (∃ t, step s = .next t) ∧
    (∀ t, step s = .next t → Faulted t ∧ t.phase = .idle ∧ t.history = s.history ∧ t.rlen = s.rlen ∧ t.rpt = s.rpt) ∧
    (∀ value, ∃ t, exec (.enc value) s = .next t ∧ t.encOut = encodeByte value ∧ t.signal = some .completed) ∧
    (∀ pulses, ∃ t, exec (.dec pulses) s = .next t ∧ t.decOut = decodeByte pulses ∧ t.signal = some .completed)

/-- 10 R44, R53, 70 R266 (the spec's decision D16): the host reads the report from the end of a RECV that captured a train,
RPT below RLEN only; after ENC, DEC, a pulse word or a refused operation it reads the same; after an accepted INIT it
reads nothing; and while an operation is in flight, before its end, every read is refused. -/
def Obligations.ReportIsReadableInItsWindow : Prop :=
  (∀ (s t : State) (pin : Pin) (h : Handle) (train : List Pulse) (rest : List CaptureAnswer),
    s.phase = .idle → s.fatal = false → s.inited = true → s.captureAnswers = .train h train :: rest →
    (∀ p ∈ train, p.fits s.widths.durW = true) → exec (.recv pin) s = .next t →
    t.hostReadRlen = .ok (decodeFrame train).1 ∧
    (∀ (k : Nat) (b : Byte), (decodeFrame train).2[k]? = some b → t.hostReadRpt k = .ok b) ∧
    (∀ k : Nat, (decodeFrame train).1 ≤ k → t.hostReadRpt k = .error (.noValue .rpt))) ∧
  (∀ (i : Instr) (s t : State), exec i s = .next t → instrPin? i = none ∨ (∃ code, t.signal = some (.refused code)) →
    t.hostReadRlen = s.hostReadRlen ∧ ∀ k, t.hostReadRpt k = s.hostReadRpt k) ∧
  (∀ (pin : Pin) (s t : State), s.phase = .idle → s.fatal = false → exec (.init pin) s = .next t →
    t.hostReadRlen = .error (.noValue .rlen) ∧ ∀ k, t.hostReadRpt k = .error (.noValue .rpt)) ∧
  (∀ s : State, s.phase ≠ .idle →
    s.hostReadRlen = .error (.operationInFlight .rlen) ∧ ∀ k, s.hostReadRpt k = .error (.operationInFlight .rpt))

/-! ## Reset and the invariant -/

/-- 10 R49, 70 R250 (the spec's decision D2): the reset values of every state element of the block, "holds no value"
included, and no event. -/
def Obligations.ResetValues : Prop :=
  State.reset.inited = false ∧ State.reset.fatal = false ∧ State.reset.err = .noError ∧ State.reset.phase = .idle ∧
  State.reset.curop = none ∧ State.reset.pinr = none ∧ State.reset.cmdlen = none ∧ State.reset.txlen = none ∧
  State.reset.capheld = false ∧ State.reset.caph = none ∧ State.reset.capcnt = none ∧ State.reset.rlen = none ∧
  (∀ k, State.reset.cmd.read k = none ∧ State.reset.tx.read k = none ∧ State.reset.rpt.read k = none) ∧
  State.reset.history = [] ∧ Config.rxTimeout = 100

/-- 10 R34, R35, R33, R47, 60 R226, 30 R117 (the spec's decisions D12, D13, D26, D29): the codes of PHASE, ERR, CUROP and
the classifier's verdict, and the flag BUSY. -/
def Obligations.RegisterCodes : Prop :=
  [Phase.idle, .sending, .awaitingResponse, .decoding, .timeout, .done].map Phase.code = [0, 1, 2, 3, 4, 5] ∧
  [ErrCode.noError, .eHwcfg, .eBusy, .eLen, .eOp, .eFatal].map ErrCode.code = [0, 1, 2, 3, 4, 5] ∧
  (∀ (pin : Pin) (n : Nat) (command : List Byte),
    [TransceiverOp.init, .send, .recv, .xfer].map (fun op => op.code.toNat) =
      [Instr.init pin, .send pin n command, .recv pin, .xfer pin n command].map Instr.tableMatch) ∧
  [FrameClass.unrecognized, .r1, .r3, .r8].map FrameClass.code = [0, 1, 2, 3] ∧
  ∀ s : State, s.busy = true ↔ s.phase.code ≠ 0

/-- 70 R250, R262, 93 U12 (the spec's decision D2; the move is the model's, log 16): a reset at IDLE gives every element of
the block its reset value and leaves what the host will present and the environment's answers alone; a reset of a busy block
is refused. The model's choices, which R250 and 10 R49 do not give: the input wires ENC_IN and DEC_IN at zero (DESIGN CHOICE,
unsafe, log 13) and no signal (DESIGN CHOICE, log 14). -/
def Obligations.HostResetOnlyAtIdle : Prop :=
  ∀ s : State,
    (s.phase = .idle → ∃ t, s.hostReset = .next t ∧
      t = { State.resetAt s.widths with
        presented := s.presented, configureAnswers := s.configureAnswers, captureAnswers := s.captureAnswers
        draws := s.draws }) ∧
    (s.phase ≠ .idle → s.hostReset = .refused .resetInFlight)

/-- 10 R54, 42 R190 (derived): the state after reset meets the invariant, on an instance of any legal widths. -/
def Obligations.ResetMeetsTheInvariant : Prop :=
  BlockInvariant State.reset ∧ ∀ W : Widths, W.legal = true → BlockInvariant (State.resetAt W)

/-- 10 R54, R50, R33, R44, 42 R190 (derived): EVERY STEP KEEPS THE INVARIANT, from every state that meets it, whole
operations and single transitions alike. -/
def Obligations.EveryStepKeepsTheInvariant : Prop :=
  ∀ s t : State, BlockInvariant s → step s = .next t ∨ seqStep s = .next t → BlockInvariant t

/-- 42 R190, 10 R54 (derived; the presentations and the answers in State: log 18, log 4): from reset, on an
instance of any legal widths, whatever the host presents and whatever the environment answers, every run makes a legal event
history in which every captured train has been released, and ends at rest in a state that is never both set up and faulted
and holds no train. -/
def Obligations.EveryRunMakesALegalHistory : Prop :=
  ∀ (W : Widths) (program : List Presented) (configures : List ConfigureAnswer) (captures : List CaptureAnswer) (k : Nat)
    (t : State), W.legal = true →
    Sys2Proof.core.run k { State.resetAt W with
      presented := program, configureAnswers := configures, captureAnswers := captures } = .next t →
    LegalHistory t.history ∧ Scan.start.events t.history = some t.scan ∧ t.scan.held = none ∧
    ¬ (t.inited = true ∧ t.fatal = true) ∧ t.phase = .idle ∧ t.capheld = false

/-- 10 R53, R83 of 20 (derived): from a state of the invariant every step answers a next state: nothing is read while it
holds no value, and nothing that the host can put on the ports is without a meaning. The model's choices: a refusal answers
a next state (DEDUCED, log 9, against R225's last sentence), the exception does (log 10), and what can stand on the ports
is the form of log 12 (a lone pulse word: log 11). -/
def Obligations.NoStepReadsWhatHoldsNoValue : Prop :=
  ∀ s : State, BlockInvariant s → (∃ t, step s = .next t) ∧ ∃ t, seqStep s = .next t
end

