-- ==== Sys2Proof/Laws/State.lean ====
section
/-! SUPPORT. One lemma per field for each update of the state, so that no later proof unfolds a record update. -/

namespace Sys2Proof.Machine

/-! ### State.record -/

@[simp] theorem record_widths (e : Event) (s : State) : (s.record e).widths = s.widths := rfl
@[simp] theorem record_inited (e : Event) (s : State) : (s.record e).inited = s.inited := rfl
@[simp] theorem record_fatal (e : Event) (s : State) : (s.record e).fatal = s.fatal := rfl
@[simp] theorem record_err (e : Event) (s : State) : (s.record e).err = s.err := rfl
@[simp] theorem record_phase (e : Event) (s : State) : (s.record e).phase = s.phase := rfl
@[simp] theorem record_curop (e : Event) (s : State) : (s.record e).curop = s.curop := rfl
@[simp] theorem record_pinr (e : Event) (s : State) : (s.record e).pinr = s.pinr := rfl
@[simp] theorem record_cmdlen (e : Event) (s : State) : (s.record e).cmdlen = s.cmdlen := rfl
@[simp] theorem record_cmd (e : Event) (s : State) : (s.record e).cmd = s.cmd := rfl
@[simp] theorem record_tx (e : Event) (s : State) : (s.record e).tx = s.tx := rfl
@[simp] theorem record_txlen (e : Event) (s : State) : (s.record e).txlen = s.txlen := rfl
@[simp] theorem record_capheld (e : Event) (s : State) : (s.record e).capheld = s.capheld := rfl
@[simp] theorem record_caph (e : Event) (s : State) : (s.record e).caph = s.caph := rfl
@[simp] theorem record_capcnt (e : Event) (s : State) : (s.record e).capcnt = s.capcnt := rfl
@[simp] theorem record_rx (e : Event) (s : State) : (s.record e).rx = s.rx := rfl
@[simp] theorem record_rpt (e : Event) (s : State) : (s.record e).rpt = s.rpt := rfl
@[simp] theorem record_rlen (e : Event) (s : State) : (s.record e).rlen = s.rlen := rfl
@[simp] theorem record_encIn (e : Event) (s : State) : (s.record e).encIn = s.encIn := rfl
@[simp] theorem record_decIn (e : Event) (s : State) : (s.record e).decIn = s.decIn := rfl
@[simp] theorem record_signal (e : Event) (s : State) : (s.record e).signal = s.signal := rfl
@[simp] theorem record_history (e : Event) (s : State) : (s.record e).history = s.history ++ [e] := rfl
@[simp] theorem record_presented (e : Event) (s : State) : (s.record e).presented = s.presented := rfl
@[simp] theorem record_configureAnswers (e : Event) (s : State) : (s.record e).configureAnswers = s.configureAnswers := rfl
@[simp] theorem record_captureAnswers (e : Event) (s : State) : (s.record e).captureAnswers = s.captureAnswers := rfl
@[simp] theorem record_draws (e : Event) (s : State) : (s.record e).draws = s.draws := rfl

/-! ### State.goTo -/

@[simp] theorem goTo_widths (p : Phase) (s : State) : (s.goTo p).widths = s.widths := rfl
@[simp] theorem goTo_inited (p : Phase) (s : State) : (s.goTo p).inited = s.inited := rfl
@[simp] theorem goTo_fatal (p : Phase) (s : State) : (s.goTo p).fatal = s.fatal := rfl
@[simp] theorem goTo_err (p : Phase) (s : State) : (s.goTo p).err = s.err := rfl
@[simp] theorem goTo_phase (p : Phase) (s : State) : (s.goTo p).phase = p := rfl
@[simp] theorem goTo_curop (p : Phase) (s : State) : (s.goTo p).curop = s.curop := rfl
@[simp] theorem goTo_pinr (p : Phase) (s : State) : (s.goTo p).pinr = s.pinr := rfl
@[simp] theorem goTo_cmdlen (p : Phase) (s : State) : (s.goTo p).cmdlen = s.cmdlen := rfl
@[simp] theorem goTo_cmd (p : Phase) (s : State) : (s.goTo p).cmd = s.cmd := rfl
@[simp] theorem goTo_tx (p : Phase) (s : State) : (s.goTo p).tx = s.tx := rfl
@[simp] theorem goTo_txlen (p : Phase) (s : State) : (s.goTo p).txlen = s.txlen := rfl
@[simp] theorem goTo_capheld (p : Phase) (s : State) : (s.goTo p).capheld = s.capheld := rfl
@[simp] theorem goTo_caph (p : Phase) (s : State) : (s.goTo p).caph = s.caph := rfl
@[simp] theorem goTo_capcnt (p : Phase) (s : State) : (s.goTo p).capcnt = s.capcnt := rfl
@[simp] theorem goTo_rx (p : Phase) (s : State) : (s.goTo p).rx = s.rx := rfl
@[simp] theorem goTo_rpt (p : Phase) (s : State) : (s.goTo p).rpt = s.rpt := rfl
@[simp] theorem goTo_rlen (p : Phase) (s : State) : (s.goTo p).rlen = s.rlen := rfl
@[simp] theorem goTo_encIn (p : Phase) (s : State) : (s.goTo p).encIn = s.encIn := rfl
@[simp] theorem goTo_decIn (p : Phase) (s : State) : (s.goTo p).decIn = s.decIn := rfl
@[simp] theorem goTo_signal (p : Phase) (s : State) : (s.goTo p).signal = s.signal := rfl
@[simp] theorem goTo_history (p : Phase) (s : State) : (s.goTo p).history = s.history := rfl
@[simp] theorem goTo_presented (p : Phase) (s : State) : (s.goTo p).presented = s.presented := rfl
@[simp] theorem goTo_configureAnswers (p : Phase) (s : State) : (s.goTo p).configureAnswers = s.configureAnswers := rfl
@[simp] theorem goTo_captureAnswers (p : Phase) (s : State) : (s.goTo p).captureAnswers = s.captureAnswers := rfl
@[simp] theorem goTo_draws (p : Phase) (s : State) : (s.goTo p).draws = s.draws := rfl

/-! ### clearTransients -/

@[simp] theorem clearTransients_widths (s : State) : (clearTransients s).widths = s.widths := rfl
@[simp] theorem clearTransients_inited (s : State) : (clearTransients s).inited = s.inited := rfl
@[simp] theorem clearTransients_fatal (s : State) : (clearTransients s).fatal = s.fatal := rfl
@[simp] theorem clearTransients_err (s : State) : (clearTransients s).err = s.err := rfl
@[simp] theorem clearTransients_phase (s : State) : (clearTransients s).phase = s.phase := rfl
@[simp] theorem clearTransients_curop (s : State) : (clearTransients s).curop = none := rfl
@[simp] theorem clearTransients_pinr (s : State) : (clearTransients s).pinr = none := rfl
@[simp] theorem clearTransients_cmdlen (s : State) : (clearTransients s).cmdlen = none := rfl
@[simp] theorem clearTransients_cmd (s : State) : (clearTransients s).cmd = [] := rfl
@[simp] theorem clearTransients_tx (s : State) : (clearTransients s).tx = [] := rfl
@[simp] theorem clearTransients_txlen (s : State) : (clearTransients s).txlen = none := rfl
@[simp] theorem clearTransients_capheld (s : State) : (clearTransients s).capheld = s.capheld := rfl
@[simp] theorem clearTransients_caph (s : State) : (clearTransients s).caph = none := rfl
@[simp] theorem clearTransients_capcnt (s : State) : (clearTransients s).capcnt = none := rfl
@[simp] theorem clearTransients_rx (s : State) : (clearTransients s).rx = s.rx := rfl
@[simp] theorem clearTransients_rpt (s : State) : (clearTransients s).rpt = s.rpt := rfl
@[simp] theorem clearTransients_rlen (s : State) : (clearTransients s).rlen = s.rlen := rfl
@[simp] theorem clearTransients_encIn (s : State) : (clearTransients s).encIn = s.encIn := rfl
@[simp] theorem clearTransients_decIn (s : State) : (clearTransients s).decIn = s.decIn := rfl
@[simp] theorem clearTransients_signal (s : State) : (clearTransients s).signal = s.signal := rfl
@[simp] theorem clearTransients_history (s : State) : (clearTransients s).history = s.history := rfl
@[simp] theorem clearTransients_presented (s : State) : (clearTransients s).presented = s.presented := rfl
@[simp] theorem clearTransients_configureAnswers (s : State) : (clearTransients s).configureAnswers = s.configureAnswers := rfl
@[simp] theorem clearTransients_captureAnswers (s : State) : (clearTransients s).captureAnswers = s.captureAnswers := rfl
@[simp] theorem clearTransients_draws (s : State) : (clearTransients s).draws = s.draws := rfl

/-! ### complete -/

@[simp] theorem complete_widths (s : State) : (complete s).widths = s.widths := rfl
@[simp] theorem complete_inited (s : State) : (complete s).inited = s.inited := rfl
@[simp] theorem complete_fatal (s : State) : (complete s).fatal = s.fatal := rfl
@[simp] theorem complete_err (s : State) : (complete s).err = s.err := rfl
@[simp] theorem complete_phase (s : State) : (complete s).phase = .idle := rfl
@[simp] theorem complete_curop (s : State) : (complete s).curop = none := rfl
@[simp] theorem complete_pinr (s : State) : (complete s).pinr = none := rfl
@[simp] theorem complete_cmdlen (s : State) : (complete s).cmdlen = none := rfl
@[simp] theorem complete_cmd (s : State) : (complete s).cmd = [] := rfl
@[simp] theorem complete_tx (s : State) : (complete s).tx = [] := rfl
@[simp] theorem complete_txlen (s : State) : (complete s).txlen = none := rfl
@[simp] theorem complete_capheld (s : State) : (complete s).capheld = s.capheld := rfl
@[simp] theorem complete_caph (s : State) : (complete s).caph = none := rfl
@[simp] theorem complete_capcnt (s : State) : (complete s).capcnt = none := rfl
@[simp] theorem complete_rx (s : State) : (complete s).rx = s.rx := rfl
@[simp] theorem complete_rpt (s : State) : (complete s).rpt = s.rpt := rfl
@[simp] theorem complete_rlen (s : State) : (complete s).rlen = s.rlen := rfl
@[simp] theorem complete_encIn (s : State) : (complete s).encIn = s.encIn := rfl
@[simp] theorem complete_decIn (s : State) : (complete s).decIn = s.decIn := rfl
@[simp] theorem complete_signal (s : State) : (complete s).signal = some .completed := rfl
@[simp] theorem complete_history (s : State) : (complete s).history = s.history := rfl
@[simp] theorem complete_presented (s : State) : (complete s).presented = s.presented := rfl
@[simp] theorem complete_configureAnswers (s : State) : (complete s).configureAnswers = s.configureAnswers := rfl
@[simp] theorem complete_captureAnswers (s : State) : (complete s).captureAnswers = s.captureAnswers := rfl
@[simp] theorem complete_draws (s : State) : (complete s).draws = s.draws := rfl

/-! ### takeHwConfigFailure -/

@[simp] theorem takeHwConfigFailure_widths (s : State) : (takeHwConfigFailure s).widths = s.widths := rfl
@[simp] theorem takeHwConfigFailure_inited (s : State) : (takeHwConfigFailure s).inited = s.inited := rfl
@[simp] theorem takeHwConfigFailure_fatal (s : State) : (takeHwConfigFailure s).fatal = true := rfl
@[simp] theorem takeHwConfigFailure_err (s : State) : (takeHwConfigFailure s).err = .eHwcfg := rfl
@[simp] theorem takeHwConfigFailure_phase (s : State) : (takeHwConfigFailure s).phase = .idle := rfl
@[simp] theorem takeHwConfigFailure_curop (s : State) : (takeHwConfigFailure s).curop = none := rfl
@[simp] theorem takeHwConfigFailure_pinr (s : State) : (takeHwConfigFailure s).pinr = none := rfl
@[simp] theorem takeHwConfigFailure_cmdlen (s : State) : (takeHwConfigFailure s).cmdlen = none := rfl
@[simp] theorem takeHwConfigFailure_cmd (s : State) : (takeHwConfigFailure s).cmd = [] := rfl
@[simp] theorem takeHwConfigFailure_tx (s : State) : (takeHwConfigFailure s).tx = [] := rfl
@[simp] theorem takeHwConfigFailure_txlen (s : State) : (takeHwConfigFailure s).txlen = none := rfl
@[simp] theorem takeHwConfigFailure_capheld (s : State) : (takeHwConfigFailure s).capheld = s.capheld := rfl
@[simp] theorem takeHwConfigFailure_caph (s : State) : (takeHwConfigFailure s).caph = none := rfl
@[simp] theorem takeHwConfigFailure_capcnt (s : State) : (takeHwConfigFailure s).capcnt = none := rfl
@[simp] theorem takeHwConfigFailure_rx (s : State) : (takeHwConfigFailure s).rx = s.rx := rfl
@[simp] theorem takeHwConfigFailure_rpt (s : State) : (takeHwConfigFailure s).rpt = [] := rfl
@[simp] theorem takeHwConfigFailure_rlen (s : State) : (takeHwConfigFailure s).rlen = none := rfl
@[simp] theorem takeHwConfigFailure_encIn (s : State) : (takeHwConfigFailure s).encIn = s.encIn := rfl
@[simp] theorem takeHwConfigFailure_decIn (s : State) : (takeHwConfigFailure s).decIn = s.decIn := rfl
@[simp] theorem takeHwConfigFailure_signal (s : State) : (takeHwConfigFailure s).signal = some .failed := rfl
@[simp] theorem takeHwConfigFailure_history (s : State) : (takeHwConfigFailure s).history = s.history := rfl
@[simp] theorem takeHwConfigFailure_presented (s : State) : (takeHwConfigFailure s).presented = s.presented := rfl
@[simp] theorem takeHwConfigFailure_configureAnswers (s : State) : (takeHwConfigFailure s).configureAnswers = s.configureAnswers := rfl
@[simp] theorem takeHwConfigFailure_captureAnswers (s : State) : (takeHwConfigFailure s).captureAnswers = s.captureAnswers := rfl
@[simp] theorem takeHwConfigFailure_draws (s : State) : (takeHwConfigFailure s).draws = s.draws := rfl

/-! ### refuse -/

@[simp] theorem refuse_widths (code : ErrCode) (s : State) : (refuse code s).widths = s.widths := rfl
@[simp] theorem refuse_inited (code : ErrCode) (s : State) : (refuse code s).inited = s.inited := rfl
@[simp] theorem refuse_fatal (code : ErrCode) (s : State) : (refuse code s).fatal = s.fatal := rfl
@[simp] theorem refuse_err (code : ErrCode) (s : State) : (refuse code s).err = code := rfl
@[simp] theorem refuse_phase (code : ErrCode) (s : State) : (refuse code s).phase = s.phase := rfl
@[simp] theorem refuse_curop (code : ErrCode) (s : State) : (refuse code s).curop = s.curop := rfl
@[simp] theorem refuse_pinr (code : ErrCode) (s : State) : (refuse code s).pinr = s.pinr := rfl
@[simp] theorem refuse_cmdlen (code : ErrCode) (s : State) : (refuse code s).cmdlen = s.cmdlen := rfl
@[simp] theorem refuse_cmd (code : ErrCode) (s : State) : (refuse code s).cmd = s.cmd := rfl
@[simp] theorem refuse_tx (code : ErrCode) (s : State) : (refuse code s).tx = s.tx := rfl
@[simp] theorem refuse_txlen (code : ErrCode) (s : State) : (refuse code s).txlen = s.txlen := rfl
@[simp] theorem refuse_capheld (code : ErrCode) (s : State) : (refuse code s).capheld = s.capheld := rfl
@[simp] theorem refuse_caph (code : ErrCode) (s : State) : (refuse code s).caph = s.caph := rfl
@[simp] theorem refuse_capcnt (code : ErrCode) (s : State) : (refuse code s).capcnt = s.capcnt := rfl
@[simp] theorem refuse_rx (code : ErrCode) (s : State) : (refuse code s).rx = s.rx := rfl
@[simp] theorem refuse_rpt (code : ErrCode) (s : State) : (refuse code s).rpt = s.rpt := rfl
@[simp] theorem refuse_rlen (code : ErrCode) (s : State) : (refuse code s).rlen = s.rlen := rfl
@[simp] theorem refuse_encIn (code : ErrCode) (s : State) : (refuse code s).encIn = s.encIn := rfl
@[simp] theorem refuse_decIn (code : ErrCode) (s : State) : (refuse code s).decIn = s.decIn := rfl
@[simp] theorem refuse_signal (code : ErrCode) (s : State) : (refuse code s).signal = some (.refused code) := rfl
@[simp] theorem refuse_history (code : ErrCode) (s : State) : (refuse code s).history = s.history := rfl
@[simp] theorem refuse_presented (code : ErrCode) (s : State) : (refuse code s).presented = s.presented := rfl
@[simp] theorem refuse_configureAnswers (code : ErrCode) (s : State) : (refuse code s).configureAnswers = s.configureAnswers := rfl
@[simp] theorem refuse_captureAnswers (code : ErrCode) (s : State) : (refuse code s).captureAnswers = s.captureAnswers := rfl
@[simp] theorem refuse_draws (code : ErrCode) (s : State) : (refuse code s).draws = s.draws := rfl

/-! ### refuseBusy -/

@[simp] theorem refuseBusy_widths (s : State) : (refuseBusy s).widths = s.widths := rfl
@[simp] theorem refuseBusy_inited (s : State) : (refuseBusy s).inited = s.inited := rfl
@[simp] theorem refuseBusy_fatal (s : State) : (refuseBusy s).fatal = s.fatal := rfl
@[simp] theorem refuseBusy_err (s : State) : (refuseBusy s).err = s.err := rfl
@[simp] theorem refuseBusy_phase (s : State) : (refuseBusy s).phase = s.phase := rfl
@[simp] theorem refuseBusy_curop (s : State) : (refuseBusy s).curop = s.curop := rfl
@[simp] theorem refuseBusy_pinr (s : State) : (refuseBusy s).pinr = s.pinr := rfl
@[simp] theorem refuseBusy_cmdlen (s : State) : (refuseBusy s).cmdlen = s.cmdlen := rfl
@[simp] theorem refuseBusy_cmd (s : State) : (refuseBusy s).cmd = s.cmd := rfl
@[simp] theorem refuseBusy_tx (s : State) : (refuseBusy s).tx = s.tx := rfl
@[simp] theorem refuseBusy_txlen (s : State) : (refuseBusy s).txlen = s.txlen := rfl
@[simp] theorem refuseBusy_capheld (s : State) : (refuseBusy s).capheld = s.capheld := rfl
@[simp] theorem refuseBusy_caph (s : State) : (refuseBusy s).caph = s.caph := rfl
@[simp] theorem refuseBusy_capcnt (s : State) : (refuseBusy s).capcnt = s.capcnt := rfl
@[simp] theorem refuseBusy_rx (s : State) : (refuseBusy s).rx = s.rx := rfl
@[simp] theorem refuseBusy_rpt (s : State) : (refuseBusy s).rpt = s.rpt := rfl
@[simp] theorem refuseBusy_rlen (s : State) : (refuseBusy s).rlen = s.rlen := rfl
@[simp] theorem refuseBusy_encIn (s : State) : (refuseBusy s).encIn = s.encIn := rfl
@[simp] theorem refuseBusy_decIn (s : State) : (refuseBusy s).decIn = s.decIn := rfl
@[simp] theorem refuseBusy_signal (s : State) : (refuseBusy s).signal = some (.refused .eBusy) := rfl
@[simp] theorem refuseBusy_history (s : State) : (refuseBusy s).history = s.history := rfl
@[simp] theorem refuseBusy_presented (s : State) : (refuseBusy s).presented = s.presented := rfl
@[simp] theorem refuseBusy_configureAnswers (s : State) : (refuseBusy s).configureAnswers = s.configureAnswers := rfl
@[simp] theorem refuseBusy_captureAnswers (s : State) : (refuseBusy s).captureAnswers = s.captureAnswers := rfl
@[simp] theorem refuseBusy_draws (s : State) : (refuseBusy s).draws = s.draws := rfl

/-! ### latch -/

@[simp] theorem latch_widths (op : TransceiverOp) (pin : Pin) (s : State) : (latch op pin s).widths = s.widths := rfl
@[simp] theorem latch_inited (op : TransceiverOp) (pin : Pin) (s : State) : (latch op pin s).inited = s.inited := rfl
@[simp] theorem latch_fatal (op : TransceiverOp) (pin : Pin) (s : State) : (latch op pin s).fatal = s.fatal := rfl
@[simp] theorem latch_err (op : TransceiverOp) (pin : Pin) (s : State) : (latch op pin s).err = .noError := rfl
@[simp] theorem latch_phase (op : TransceiverOp) (pin : Pin) (s : State) : (latch op pin s).phase = s.phase := rfl
@[simp] theorem latch_curop (op : TransceiverOp) (pin : Pin) (s : State) : (latch op pin s).curop = some op := rfl
@[simp] theorem latch_pinr (op : TransceiverOp) (pin : Pin) (s : State) : (latch op pin s).pinr = some pin := rfl
@[simp] theorem latch_cmdlen (op : TransceiverOp) (pin : Pin) (s : State) : (latch op pin s).cmdlen = s.cmdlen := rfl
@[simp] theorem latch_cmd (op : TransceiverOp) (pin : Pin) (s : State) : (latch op pin s).cmd = s.cmd := rfl
@[simp] theorem latch_tx (op : TransceiverOp) (pin : Pin) (s : State) : (latch op pin s).tx = s.tx := rfl
@[simp] theorem latch_txlen (op : TransceiverOp) (pin : Pin) (s : State) : (latch op pin s).txlen = s.txlen := rfl
@[simp] theorem latch_capheld (op : TransceiverOp) (pin : Pin) (s : State) : (latch op pin s).capheld = s.capheld := rfl
@[simp] theorem latch_caph (op : TransceiverOp) (pin : Pin) (s : State) : (latch op pin s).caph = s.caph := rfl
@[simp] theorem latch_capcnt (op : TransceiverOp) (pin : Pin) (s : State) : (latch op pin s).capcnt = s.capcnt := rfl
@[simp] theorem latch_rx (op : TransceiverOp) (pin : Pin) (s : State) : (latch op pin s).rx = s.rx := rfl
@[simp] theorem latch_rpt (op : TransceiverOp) (pin : Pin) (s : State) : (latch op pin s).rpt = [] := rfl
@[simp] theorem latch_rlen (op : TransceiverOp) (pin : Pin) (s : State) : (latch op pin s).rlen = none := rfl
@[simp] theorem latch_encIn (op : TransceiverOp) (pin : Pin) (s : State) : (latch op pin s).encIn = s.encIn := rfl
@[simp] theorem latch_decIn (op : TransceiverOp) (pin : Pin) (s : State) : (latch op pin s).decIn = s.decIn := rfl
@[simp] theorem latch_signal (op : TransceiverOp) (pin : Pin) (s : State) : (latch op pin s).signal = s.signal := rfl
@[simp] theorem latch_history (op : TransceiverOp) (pin : Pin) (s : State) : (latch op pin s).history = s.history := rfl
@[simp] theorem latch_presented (op : TransceiverOp) (pin : Pin) (s : State) : (latch op pin s).presented = s.presented := rfl
@[simp] theorem latch_configureAnswers (op : TransceiverOp) (pin : Pin) (s : State) : (latch op pin s).configureAnswers = s.configureAnswers := rfl
@[simp] theorem latch_captureAnswers (op : TransceiverOp) (pin : Pin) (s : State) : (latch op pin s).captureAnswers = s.captureAnswers := rfl
@[simp] theorem latch_draws (op : TransceiverOp) (pin : Pin) (s : State) : (latch op pin s).draws = s.draws := rfl

/-! ### latchCommand -/

@[simp] theorem latchCommand_widths (n : Nat) (command : List Byte) (s : State) : (latchCommand n command s).widths = s.widths := rfl
@[simp] theorem latchCommand_inited (n : Nat) (command : List Byte) (s : State) : (latchCommand n command s).inited = s.inited := rfl
@[simp] theorem latchCommand_fatal (n : Nat) (command : List Byte) (s : State) : (latchCommand n command s).fatal = s.fatal := rfl
@[simp] theorem latchCommand_err (n : Nat) (command : List Byte) (s : State) : (latchCommand n command s).err = s.err := rfl
@[simp] theorem latchCommand_phase (n : Nat) (command : List Byte) (s : State) : (latchCommand n command s).phase = s.phase := rfl
@[simp] theorem latchCommand_curop (n : Nat) (command : List Byte) (s : State) : (latchCommand n command s).curop = s.curop := rfl
@[simp] theorem latchCommand_pinr (n : Nat) (command : List Byte) (s : State) : (latchCommand n command s).pinr = s.pinr := rfl
@[simp] theorem latchCommand_cmdlen (n : Nat) (command : List Byte) (s : State) : (latchCommand n command s).cmdlen = some n := rfl
@[simp] theorem latchCommand_cmd (n : Nat) (command : List Byte) (s : State) : (latchCommand n command s).cmd = memWrite s.cmd 0 command := rfl
@[simp] theorem latchCommand_tx (n : Nat) (command : List Byte) (s : State) : (latchCommand n command s).tx = s.tx := rfl
@[simp] theorem latchCommand_txlen (n : Nat) (command : List Byte) (s : State) : (latchCommand n command s).txlen = s.txlen := rfl
@[simp] theorem latchCommand_capheld (n : Nat) (command : List Byte) (s : State) : (latchCommand n command s).capheld = s.capheld := rfl
@[simp] theorem latchCommand_caph (n : Nat) (command : List Byte) (s : State) : (latchCommand n command s).caph = s.caph := rfl
@[simp] theorem latchCommand_capcnt (n : Nat) (command : List Byte) (s : State) : (latchCommand n command s).capcnt = s.capcnt := rfl
@[simp] theorem latchCommand_rx (n : Nat) (command : List Byte) (s : State) : (latchCommand n command s).rx = s.rx := rfl
@[simp] theorem latchCommand_rpt (n : Nat) (command : List Byte) (s : State) : (latchCommand n command s).rpt = s.rpt := rfl
@[simp] theorem latchCommand_rlen (n : Nat) (command : List Byte) (s : State) : (latchCommand n command s).rlen = s.rlen := rfl
@[simp] theorem latchCommand_encIn (n : Nat) (command : List Byte) (s : State) : (latchCommand n command s).encIn = s.encIn := rfl
@[simp] theorem latchCommand_decIn (n : Nat) (command : List Byte) (s : State) : (latchCommand n command s).decIn = s.decIn := rfl
@[simp] theorem latchCommand_signal (n : Nat) (command : List Byte) (s : State) : (latchCommand n command s).signal = s.signal := rfl
@[simp] theorem latchCommand_history (n : Nat) (command : List Byte) (s : State) : (latchCommand n command s).history = s.history := rfl
@[simp] theorem latchCommand_presented (n : Nat) (command : List Byte) (s : State) : (latchCommand n command s).presented = s.presented := rfl
@[simp] theorem latchCommand_configureAnswers (n : Nat) (command : List Byte) (s : State) : (latchCommand n command s).configureAnswers = s.configureAnswers := rfl
@[simp] theorem latchCommand_captureAnswers (n : Nat) (command : List Byte) (s : State) : (latchCommand n command s).captureAnswers = s.captureAnswers := rfl
@[simp] theorem latchCommand_draws (n : Nat) (command : List Byte) (s : State) : (latchCommand n command s).draws = s.draws := rfl

/-! ### transmitCommand -/

@[simp] theorem transmitCommand_widths (pin : Pin) (n : Nat) (command : List Byte) (s : State) : (transmitCommand pin n command s).widths = s.widths := rfl
@[simp] theorem transmitCommand_inited (pin : Pin) (n : Nat) (command : List Byte) (s : State) : (transmitCommand pin n command s).inited = s.inited := rfl
@[simp] theorem transmitCommand_fatal (pin : Pin) (n : Nat) (command : List Byte) (s : State) : (transmitCommand pin n command s).fatal = s.fatal := rfl
@[simp] theorem transmitCommand_err (pin : Pin) (n : Nat) (command : List Byte) (s : State) : (transmitCommand pin n command s).err = s.err := rfl
@[simp] theorem transmitCommand_phase (pin : Pin) (n : Nat) (command : List Byte) (s : State) : (transmitCommand pin n command s).phase = s.phase := rfl
@[simp] theorem transmitCommand_curop (pin : Pin) (n : Nat) (command : List Byte) (s : State) : (transmitCommand pin n command s).curop = s.curop := rfl
@[simp] theorem transmitCommand_pinr (pin : Pin) (n : Nat) (command : List Byte) (s : State) : (transmitCommand pin n command s).pinr = s.pinr := rfl
@[simp] theorem transmitCommand_cmdlen (pin : Pin) (n : Nat) (command : List Byte) (s : State) : (transmitCommand pin n command s).cmdlen = s.cmdlen := rfl
@[simp] theorem transmitCommand_cmd (pin : Pin) (n : Nat) (command : List Byte) (s : State) : (transmitCommand pin n command s).cmd = s.cmd := rfl
@[simp] theorem transmitCommand_tx (pin : Pin) (n : Nat) (command : List Byte) (s : State) : (transmitCommand pin n command s).tx = memWrite s.tx 0 (buildTrain command) := rfl
@[simp] theorem transmitCommand_txlen (pin : Pin) (n : Nat) (command : List Byte) (s : State) : (transmitCommand pin n command s).txlen = some (8 * n + 1) := rfl
@[simp] theorem transmitCommand_capheld (pin : Pin) (n : Nat) (command : List Byte) (s : State) : (transmitCommand pin n command s).capheld = s.capheld := rfl
@[simp] theorem transmitCommand_caph (pin : Pin) (n : Nat) (command : List Byte) (s : State) : (transmitCommand pin n command s).caph = s.caph := rfl
@[simp] theorem transmitCommand_capcnt (pin : Pin) (n : Nat) (command : List Byte) (s : State) : (transmitCommand pin n command s).capcnt = s.capcnt := rfl
@[simp] theorem transmitCommand_rx (pin : Pin) (n : Nat) (command : List Byte) (s : State) : (transmitCommand pin n command s).rx = s.rx := rfl
@[simp] theorem transmitCommand_rpt (pin : Pin) (n : Nat) (command : List Byte) (s : State) : (transmitCommand pin n command s).rpt = s.rpt := rfl
@[simp] theorem transmitCommand_rlen (pin : Pin) (n : Nat) (command : List Byte) (s : State) : (transmitCommand pin n command s).rlen = s.rlen := rfl
@[simp] theorem transmitCommand_encIn (pin : Pin) (n : Nat) (command : List Byte) (s : State) : (transmitCommand pin n command s).encIn = s.encIn := rfl
@[simp] theorem transmitCommand_decIn (pin : Pin) (n : Nat) (command : List Byte) (s : State) : (transmitCommand pin n command s).decIn = s.decIn := rfl
@[simp] theorem transmitCommand_signal (pin : Pin) (n : Nat) (command : List Byte) (s : State) : (transmitCommand pin n command s).signal = s.signal := rfl
@[simp] theorem transmitCommand_history (pin : Pin) (n : Nat) (command : List Byte) (s : State) : (transmitCommand pin n command s).history = s.history ++ [.transmit pin (buildTrain command)] := rfl
@[simp] theorem transmitCommand_presented (pin : Pin) (n : Nat) (command : List Byte) (s : State) : (transmitCommand pin n command s).presented = s.presented := rfl
@[simp] theorem transmitCommand_configureAnswers (pin : Pin) (n : Nat) (command : List Byte) (s : State) : (transmitCommand pin n command s).configureAnswers = s.configureAnswers := rfl
@[simp] theorem transmitCommand_captureAnswers (pin : Pin) (n : Nat) (command : List Byte) (s : State) : (transmitCommand pin n command s).captureAnswers = s.captureAnswers := rfl
@[simp] theorem transmitCommand_draws (pin : Pin) (n : Nat) (command : List Byte) (s : State) : (transmitCommand pin n command s).draws = s.draws := rfl

/-! ### holdTrain -/

@[simp] theorem holdTrain_widths (h : Handle) (train : List Pulse) (s : State) : (holdTrain h train s).widths = s.widths := rfl
@[simp] theorem holdTrain_inited (h : Handle) (train : List Pulse) (s : State) : (holdTrain h train s).inited = s.inited := rfl
@[simp] theorem holdTrain_fatal (h : Handle) (train : List Pulse) (s : State) : (holdTrain h train s).fatal = s.fatal := rfl
@[simp] theorem holdTrain_err (h : Handle) (train : List Pulse) (s : State) : (holdTrain h train s).err = s.err := rfl
@[simp] theorem holdTrain_phase (h : Handle) (train : List Pulse) (s : State) : (holdTrain h train s).phase = s.phase := rfl
@[simp] theorem holdTrain_curop (h : Handle) (train : List Pulse) (s : State) : (holdTrain h train s).curop = s.curop := rfl
@[simp] theorem holdTrain_pinr (h : Handle) (train : List Pulse) (s : State) : (holdTrain h train s).pinr = s.pinr := rfl
@[simp] theorem holdTrain_cmdlen (h : Handle) (train : List Pulse) (s : State) : (holdTrain h train s).cmdlen = s.cmdlen := rfl
@[simp] theorem holdTrain_cmd (h : Handle) (train : List Pulse) (s : State) : (holdTrain h train s).cmd = s.cmd := rfl
@[simp] theorem holdTrain_tx (h : Handle) (train : List Pulse) (s : State) : (holdTrain h train s).tx = s.tx := rfl
@[simp] theorem holdTrain_txlen (h : Handle) (train : List Pulse) (s : State) : (holdTrain h train s).txlen = s.txlen := rfl
@[simp] theorem holdTrain_capheld (h : Handle) (train : List Pulse) (s : State) : (holdTrain h train s).capheld = true := rfl
@[simp] theorem holdTrain_caph (h : Handle) (train : List Pulse) (s : State) : (holdTrain h train s).caph = some h := rfl
@[simp] theorem holdTrain_capcnt (h : Handle) (train : List Pulse) (s : State) : (holdTrain h train s).capcnt = some train.length := rfl
@[simp] theorem holdTrain_rx (h : Handle) (train : List Pulse) (s : State) : (holdTrain h train s).rx = train := rfl
@[simp] theorem holdTrain_rpt (h : Handle) (train : List Pulse) (s : State) : (holdTrain h train s).rpt = s.rpt := rfl
@[simp] theorem holdTrain_rlen (h : Handle) (train : List Pulse) (s : State) : (holdTrain h train s).rlen = s.rlen := rfl
@[simp] theorem holdTrain_encIn (h : Handle) (train : List Pulse) (s : State) : (holdTrain h train s).encIn = s.encIn := rfl
@[simp] theorem holdTrain_decIn (h : Handle) (train : List Pulse) (s : State) : (holdTrain h train s).decIn = s.decIn := rfl
@[simp] theorem holdTrain_signal (h : Handle) (train : List Pulse) (s : State) : (holdTrain h train s).signal = s.signal := rfl
@[simp] theorem holdTrain_history (h : Handle) (train : List Pulse) (s : State) : (holdTrain h train s).history = s.history := rfl
@[simp] theorem holdTrain_presented (h : Handle) (train : List Pulse) (s : State) : (holdTrain h train s).presented = s.presented := rfl
@[simp] theorem holdTrain_configureAnswers (h : Handle) (train : List Pulse) (s : State) : (holdTrain h train s).configureAnswers = s.configureAnswers := rfl
@[simp] theorem holdTrain_captureAnswers (h : Handle) (train : List Pulse) (s : State) : (holdTrain h train s).captureAnswers = s.captureAnswers := rfl
@[simp] theorem holdTrain_draws (h : Handle) (train : List Pulse) (s : State) : (holdTrain h train s).draws = s.draws := rfl

/-! ### writeReport -/

@[simp] theorem writeReport_widths (result : Nat × List Byte) (s : State) : (writeReport result s).widths = s.widths := rfl
@[simp] theorem writeReport_inited (result : Nat × List Byte) (s : State) : (writeReport result s).inited = s.inited := rfl
@[simp] theorem writeReport_fatal (result : Nat × List Byte) (s : State) : (writeReport result s).fatal = s.fatal := rfl
@[simp] theorem writeReport_err (result : Nat × List Byte) (s : State) : (writeReport result s).err = s.err := rfl
@[simp] theorem writeReport_phase (result : Nat × List Byte) (s : State) : (writeReport result s).phase = s.phase := rfl
@[simp] theorem writeReport_curop (result : Nat × List Byte) (s : State) : (writeReport result s).curop = s.curop := rfl
@[simp] theorem writeReport_pinr (result : Nat × List Byte) (s : State) : (writeReport result s).pinr = s.pinr := rfl
@[simp] theorem writeReport_cmdlen (result : Nat × List Byte) (s : State) : (writeReport result s).cmdlen = s.cmdlen := rfl
@[simp] theorem writeReport_cmd (result : Nat × List Byte) (s : State) : (writeReport result s).cmd = s.cmd := rfl
@[simp] theorem writeReport_tx (result : Nat × List Byte) (s : State) : (writeReport result s).tx = s.tx := rfl
@[simp] theorem writeReport_txlen (result : Nat × List Byte) (s : State) : (writeReport result s).txlen = s.txlen := rfl
@[simp] theorem writeReport_capheld (result : Nat × List Byte) (s : State) : (writeReport result s).capheld = s.capheld := rfl
@[simp] theorem writeReport_caph (result : Nat × List Byte) (s : State) : (writeReport result s).caph = s.caph := rfl
@[simp] theorem writeReport_capcnt (result : Nat × List Byte) (s : State) : (writeReport result s).capcnt = s.capcnt := rfl
@[simp] theorem writeReport_rx (result : Nat × List Byte) (s : State) : (writeReport result s).rx = s.rx := rfl
@[simp] theorem writeReport_rpt (result : Nat × List Byte) (s : State) : (writeReport result s).rpt = memWrite s.rpt 0 result.2 := rfl
@[simp] theorem writeReport_rlen (result : Nat × List Byte) (s : State) : (writeReport result s).rlen = some result.1 := rfl
@[simp] theorem writeReport_encIn (result : Nat × List Byte) (s : State) : (writeReport result s).encIn = s.encIn := rfl
@[simp] theorem writeReport_decIn (result : Nat × List Byte) (s : State) : (writeReport result s).decIn = s.decIn := rfl
@[simp] theorem writeReport_signal (result : Nat × List Byte) (s : State) : (writeReport result s).signal = s.signal := rfl
@[simp] theorem writeReport_history (result : Nat × List Byte) (s : State) : (writeReport result s).history = s.history := rfl
@[simp] theorem writeReport_presented (result : Nat × List Byte) (s : State) : (writeReport result s).presented = s.presented := rfl
@[simp] theorem writeReport_configureAnswers (result : Nat × List Byte) (s : State) : (writeReport result s).configureAnswers = s.configureAnswers := rfl
@[simp] theorem writeReport_captureAnswers (result : Nat × List Byte) (s : State) : (writeReport result s).captureAnswers = s.captureAnswers := rfl
@[simp] theorem writeReport_draws (result : Nat × List Byte) (s : State) : (writeReport result s).draws = s.draws := rfl

/-! ### emptyReport -/

@[simp] theorem emptyReport_widths (s : State) : (emptyReport s).widths = s.widths := rfl
@[simp] theorem emptyReport_inited (s : State) : (emptyReport s).inited = s.inited := rfl
@[simp] theorem emptyReport_fatal (s : State) : (emptyReport s).fatal = s.fatal := rfl
@[simp] theorem emptyReport_err (s : State) : (emptyReport s).err = s.err := rfl
@[simp] theorem emptyReport_phase (s : State) : (emptyReport s).phase = s.phase := rfl
@[simp] theorem emptyReport_curop (s : State) : (emptyReport s).curop = s.curop := rfl
@[simp] theorem emptyReport_pinr (s : State) : (emptyReport s).pinr = s.pinr := rfl
@[simp] theorem emptyReport_cmdlen (s : State) : (emptyReport s).cmdlen = s.cmdlen := rfl
@[simp] theorem emptyReport_cmd (s : State) : (emptyReport s).cmd = s.cmd := rfl
@[simp] theorem emptyReport_tx (s : State) : (emptyReport s).tx = s.tx := rfl
@[simp] theorem emptyReport_txlen (s : State) : (emptyReport s).txlen = s.txlen := rfl
@[simp] theorem emptyReport_capheld (s : State) : (emptyReport s).capheld = s.capheld := rfl
@[simp] theorem emptyReport_caph (s : State) : (emptyReport s).caph = s.caph := rfl
@[simp] theorem emptyReport_capcnt (s : State) : (emptyReport s).capcnt = s.capcnt := rfl
@[simp] theorem emptyReport_rx (s : State) : (emptyReport s).rx = s.rx := rfl
@[simp] theorem emptyReport_rpt (s : State) : (emptyReport s).rpt = s.rpt := rfl
@[simp] theorem emptyReport_rlen (s : State) : (emptyReport s).rlen = some 0 := rfl
@[simp] theorem emptyReport_encIn (s : State) : (emptyReport s).encIn = s.encIn := rfl
@[simp] theorem emptyReport_decIn (s : State) : (emptyReport s).decIn = s.decIn := rfl
@[simp] theorem emptyReport_signal (s : State) : (emptyReport s).signal = s.signal := rfl
@[simp] theorem emptyReport_history (s : State) : (emptyReport s).history = s.history := rfl
@[simp] theorem emptyReport_presented (s : State) : (emptyReport s).presented = s.presented := rfl
@[simp] theorem emptyReport_configureAnswers (s : State) : (emptyReport s).configureAnswers = s.configureAnswers := rfl
@[simp] theorem emptyReport_captureAnswers (s : State) : (emptyReport s).captureAnswers = s.captureAnswers := rfl
@[simp] theorem emptyReport_draws (s : State) : (emptyReport s).draws = s.draws := rfl

/-! ### releaseTrain -/

@[simp] theorem releaseTrain_widths (h : Handle) (s : State) : (releaseTrain h s).widths = s.widths := rfl
@[simp] theorem releaseTrain_inited (h : Handle) (s : State) : (releaseTrain h s).inited = s.inited := rfl
@[simp] theorem releaseTrain_fatal (h : Handle) (s : State) : (releaseTrain h s).fatal = s.fatal := rfl
@[simp] theorem releaseTrain_err (h : Handle) (s : State) : (releaseTrain h s).err = s.err := rfl
@[simp] theorem releaseTrain_phase (h : Handle) (s : State) : (releaseTrain h s).phase = s.phase := rfl
@[simp] theorem releaseTrain_curop (h : Handle) (s : State) : (releaseTrain h s).curop = s.curop := rfl
@[simp] theorem releaseTrain_pinr (h : Handle) (s : State) : (releaseTrain h s).pinr = s.pinr := rfl
@[simp] theorem releaseTrain_cmdlen (h : Handle) (s : State) : (releaseTrain h s).cmdlen = s.cmdlen := rfl
@[simp] theorem releaseTrain_cmd (h : Handle) (s : State) : (releaseTrain h s).cmd = s.cmd := rfl
@[simp] theorem releaseTrain_tx (h : Handle) (s : State) : (releaseTrain h s).tx = s.tx := rfl
@[simp] theorem releaseTrain_txlen (h : Handle) (s : State) : (releaseTrain h s).txlen = s.txlen := rfl
@[simp] theorem releaseTrain_capheld (h : Handle) (s : State) : (releaseTrain h s).capheld = false := rfl
@[simp] theorem releaseTrain_caph (h : Handle) (s : State) : (releaseTrain h s).caph = none := rfl
@[simp] theorem releaseTrain_capcnt (h : Handle) (s : State) : (releaseTrain h s).capcnt = none := rfl
@[simp] theorem releaseTrain_rx (h : Handle) (s : State) : (releaseTrain h s).rx = [] := rfl
@[simp] theorem releaseTrain_rpt (h : Handle) (s : State) : (releaseTrain h s).rpt = s.rpt := rfl
@[simp] theorem releaseTrain_rlen (h : Handle) (s : State) : (releaseTrain h s).rlen = s.rlen := rfl
@[simp] theorem releaseTrain_encIn (h : Handle) (s : State) : (releaseTrain h s).encIn = s.encIn := rfl
@[simp] theorem releaseTrain_decIn (h : Handle) (s : State) : (releaseTrain h s).decIn = s.decIn := rfl
@[simp] theorem releaseTrain_signal (h : Handle) (s : State) : (releaseTrain h s).signal = s.signal := rfl
@[simp] theorem releaseTrain_history (h : Handle) (s : State) : (releaseTrain h s).history = s.history ++ [.release h] := rfl
@[simp] theorem releaseTrain_presented (h : Handle) (s : State) : (releaseTrain h s).presented = s.presented := rfl
@[simp] theorem releaseTrain_configureAnswers (h : Handle) (s : State) : (releaseTrain h s).configureAnswers = s.configureAnswers := rfl
@[simp] theorem releaseTrain_captureAnswers (h : Handle) (s : State) : (releaseTrain h s).captureAnswers = s.captureAnswers := rfl
@[simp] theorem releaseTrain_draws (h : Handle) (s : State) : (releaseTrain h s).draws = s.draws := rfl

/-! ### codecDone -/

@[simp] theorem codecDone_widths (s : State) : (codecDone s).widths = s.widths := rfl
@[simp] theorem codecDone_inited (s : State) : (codecDone s).inited = s.inited := rfl
@[simp] theorem codecDone_fatal (s : State) : (codecDone s).fatal = s.fatal := rfl
@[simp] theorem codecDone_err (s : State) : (codecDone s).err = s.err := rfl
@[simp] theorem codecDone_phase (s : State) : (codecDone s).phase = s.phase := rfl
@[simp] theorem codecDone_curop (s : State) : (codecDone s).curop = s.curop := rfl
@[simp] theorem codecDone_pinr (s : State) : (codecDone s).pinr = s.pinr := rfl
@[simp] theorem codecDone_cmdlen (s : State) : (codecDone s).cmdlen = s.cmdlen := rfl
@[simp] theorem codecDone_cmd (s : State) : (codecDone s).cmd = s.cmd := rfl
@[simp] theorem codecDone_tx (s : State) : (codecDone s).tx = s.tx := rfl
@[simp] theorem codecDone_txlen (s : State) : (codecDone s).txlen = s.txlen := rfl
@[simp] theorem codecDone_capheld (s : State) : (codecDone s).capheld = s.capheld := rfl
@[simp] theorem codecDone_caph (s : State) : (codecDone s).caph = s.caph := rfl
@[simp] theorem codecDone_capcnt (s : State) : (codecDone s).capcnt = s.capcnt := rfl
@[simp] theorem codecDone_rx (s : State) : (codecDone s).rx = s.rx := rfl
@[simp] theorem codecDone_rpt (s : State) : (codecDone s).rpt = s.rpt := rfl
@[simp] theorem codecDone_rlen (s : State) : (codecDone s).rlen = s.rlen := rfl
@[simp] theorem codecDone_encIn (s : State) : (codecDone s).encIn = s.encIn := rfl
@[simp] theorem codecDone_decIn (s : State) : (codecDone s).decIn = s.decIn := rfl
@[simp] theorem codecDone_signal (s : State) : (codecDone s).signal = some .completed := rfl
@[simp] theorem codecDone_history (s : State) : (codecDone s).history = s.history := rfl
@[simp] theorem codecDone_presented (s : State) : (codecDone s).presented = s.presented := rfl
@[simp] theorem codecDone_configureAnswers (s : State) : (codecDone s).configureAnswers = s.configureAnswers := rfl
@[simp] theorem codecDone_captureAnswers (s : State) : (codecDone s).captureAnswers = s.captureAnswers := rfl
@[simp] theorem codecDone_draws (s : State) : (codecDone s).draws = s.draws := rfl

/-! ### drivePulse -/

@[simp] theorem drivePulse_widths (slot : Fin 8) (p : Pulse) (s : State) : (drivePulse slot p s).widths = s.widths := rfl
@[simp] theorem drivePulse_inited (slot : Fin 8) (p : Pulse) (s : State) : (drivePulse slot p s).inited = s.inited := rfl
@[simp] theorem drivePulse_fatal (slot : Fin 8) (p : Pulse) (s : State) : (drivePulse slot p s).fatal = s.fatal := rfl
@[simp] theorem drivePulse_err (slot : Fin 8) (p : Pulse) (s : State) : (drivePulse slot p s).err = s.err := rfl
@[simp] theorem drivePulse_phase (slot : Fin 8) (p : Pulse) (s : State) : (drivePulse slot p s).phase = s.phase := rfl
@[simp] theorem drivePulse_curop (slot : Fin 8) (p : Pulse) (s : State) : (drivePulse slot p s).curop = s.curop := rfl
@[simp] theorem drivePulse_pinr (slot : Fin 8) (p : Pulse) (s : State) : (drivePulse slot p s).pinr = s.pinr := rfl
@[simp] theorem drivePulse_cmdlen (slot : Fin 8) (p : Pulse) (s : State) : (drivePulse slot p s).cmdlen = s.cmdlen := rfl
@[simp] theorem drivePulse_cmd (slot : Fin 8) (p : Pulse) (s : State) : (drivePulse slot p s).cmd = s.cmd := rfl
@[simp] theorem drivePulse_tx (slot : Fin 8) (p : Pulse) (s : State) : (drivePulse slot p s).tx = s.tx := rfl
@[simp] theorem drivePulse_txlen (slot : Fin 8) (p : Pulse) (s : State) : (drivePulse slot p s).txlen = s.txlen := rfl
@[simp] theorem drivePulse_capheld (slot : Fin 8) (p : Pulse) (s : State) : (drivePulse slot p s).capheld = s.capheld := rfl
@[simp] theorem drivePulse_caph (slot : Fin 8) (p : Pulse) (s : State) : (drivePulse slot p s).caph = s.caph := rfl
@[simp] theorem drivePulse_capcnt (slot : Fin 8) (p : Pulse) (s : State) : (drivePulse slot p s).capcnt = s.capcnt := rfl
@[simp] theorem drivePulse_rx (slot : Fin 8) (p : Pulse) (s : State) : (drivePulse slot p s).rx = s.rx := rfl
@[simp] theorem drivePulse_rpt (slot : Fin 8) (p : Pulse) (s : State) : (drivePulse slot p s).rpt = s.rpt := rfl
@[simp] theorem drivePulse_rlen (slot : Fin 8) (p : Pulse) (s : State) : (drivePulse slot p s).rlen = s.rlen := rfl
@[simp] theorem drivePulse_encIn (slot : Fin 8) (p : Pulse) (s : State) : (drivePulse slot p s).encIn = s.encIn := rfl
@[simp] theorem drivePulse_decIn (slot : Fin 8) (p : Pulse) (s : State) : (drivePulse slot p s).decIn = s.decIn.set slot p := rfl
@[simp] theorem drivePulse_signal (slot : Fin 8) (p : Pulse) (s : State) : (drivePulse slot p s).signal = s.signal := rfl
@[simp] theorem drivePulse_history (slot : Fin 8) (p : Pulse) (s : State) : (drivePulse slot p s).history = s.history := rfl
@[simp] theorem drivePulse_presented (slot : Fin 8) (p : Pulse) (s : State) : (drivePulse slot p s).presented = s.presented := rfl
@[simp] theorem drivePulse_configureAnswers (slot : Fin 8) (p : Pulse) (s : State) : (drivePulse slot p s).configureAnswers = s.configureAnswers := rfl
@[simp] theorem drivePulse_captureAnswers (slot : Fin 8) (p : Pulse) (s : State) : (drivePulse slot p s).captureAnswers = s.captureAnswers := rfl
@[simp] theorem drivePulse_draws (slot : Fin 8) (p : Pulse) (s : State) : (drivePulse slot p s).draws = s.draws := rfl

/-! ### State.popPresented -/

@[simp] theorem popPresented_widths (s : State) : s.popPresented.widths = s.widths := rfl
@[simp] theorem popPresented_inited (s : State) : s.popPresented.inited = s.inited := rfl
@[simp] theorem popPresented_fatal (s : State) : s.popPresented.fatal = s.fatal := rfl
@[simp] theorem popPresented_err (s : State) : s.popPresented.err = s.err := rfl
@[simp] theorem popPresented_phase (s : State) : s.popPresented.phase = s.phase := rfl
@[simp] theorem popPresented_curop (s : State) : s.popPresented.curop = s.curop := rfl
@[simp] theorem popPresented_pinr (s : State) : s.popPresented.pinr = s.pinr := rfl
@[simp] theorem popPresented_cmdlen (s : State) : s.popPresented.cmdlen = s.cmdlen := rfl
@[simp] theorem popPresented_cmd (s : State) : s.popPresented.cmd = s.cmd := rfl
@[simp] theorem popPresented_tx (s : State) : s.popPresented.tx = s.tx := rfl
@[simp] theorem popPresented_txlen (s : State) : s.popPresented.txlen = s.txlen := rfl
@[simp] theorem popPresented_capheld (s : State) : s.popPresented.capheld = s.capheld := rfl
@[simp] theorem popPresented_caph (s : State) : s.popPresented.caph = s.caph := rfl
@[simp] theorem popPresented_capcnt (s : State) : s.popPresented.capcnt = s.capcnt := rfl
@[simp] theorem popPresented_rx (s : State) : s.popPresented.rx = s.rx := rfl
@[simp] theorem popPresented_rpt (s : State) : s.popPresented.rpt = s.rpt := rfl
@[simp] theorem popPresented_rlen (s : State) : s.popPresented.rlen = s.rlen := rfl
@[simp] theorem popPresented_encIn (s : State) : s.popPresented.encIn = s.encIn := rfl
@[simp] theorem popPresented_decIn (s : State) : s.popPresented.decIn = s.decIn := rfl
@[simp] theorem popPresented_signal (s : State) : s.popPresented.signal = s.signal := rfl
@[simp] theorem popPresented_history (s : State) : s.popPresented.history = s.history := rfl
@[simp] theorem popPresented_presented (s : State) : s.popPresented.presented = s.presented.tail := rfl
@[simp] theorem popPresented_configureAnswers (s : State) : s.popPresented.configureAnswers = s.configureAnswers := rfl
@[simp] theorem popPresented_captureAnswers (s : State) : s.popPresented.captureAnswers = s.captureAnswers := rfl
@[simp] theorem popPresented_draws (s : State) : s.popPresented.draws = s.draws := rfl

end Sys2Proof.Machine
end

