-- ==== Sys2Proof/Laws/Memory.lean ====
section
/-! SUPPORT. The laws of the buffers: a read after a write, what a write leaves alone, and that every operation keeps the
canonical form. -/

namespace Sys2Proof.Machine

/-- Read after write: the index written gives what was written, any other index what it gave before. -/
theorem Memory.read_write {α : Type} (m : Memory α) (i j : Nat) (x : α) :
    (m.write i x).read j = if j = i then some x else m.read j := by
  induction m with
  | nil =>
    by_cases h : j = i
    · simp [Memory.write, Memory.read, h]
    · have : ¬ i = j := fun e => h e.symm
      simp [Memory.write, Memory.read, h, this]
  | cons a rest ih =>
    obtain ⟨k, v⟩ := a
    simp only [Memory.write]
    split
    · by_cases hji : j = i
      · simp [Memory.read, hji]
      · have : ¬ i = j := fun e => hji e.symm
        simp [Memory.read, hji, this]
    · split
      · rename_i _ heq
        subst heq
        by_cases hji : j = i
        · simp [Memory.read, hji]
        · have : ¬ i = j := fun e => hji e.symm
          simp [Memory.read, hji, this]
      · by_cases hkj : k = j
        · have : ¬ j = i := by omega
          simp [Memory.read, hkj, this]
        · simp [Memory.read, hkj, ih]

/-- A write keeps the canonical form, and the first index is the old first or the one written. -/
theorem Memory.wf_write_head {α : Type} (m : Memory α) (i : Nat) (x : α) (hw : m.wf = true) :
    (m.write i x).wf = true ∧ ∀ b, (∀ a ∈ m.head?, b < a.1) → b < i → ∀ a ∈ (m.write i x).head?, b < a.1 := by
  induction m with
  | nil => exact ⟨rfl, fun b _ hb a ha => by simp [Memory.write] at ha; subst ha; exact hb⟩
  | cons c rest ih =>
    obtain ⟨k, v⟩ := c
    have hrest : Memory.wf rest = true := by
      cases rest with
      | nil => rfl
      | cons b r => simp only [Memory.wf, Bool.and_eq_true] at hw; exact hw.2
    have hhead : ∀ a ∈ rest.head?, k < a.1 := by
      cases rest with
      | nil => simp
      | cons b r =>
        simp only [Memory.wf, Bool.and_eq_true, decide_eq_true_eq] at hw
        intro a ha; simp at ha; subst ha; exact hw.1
    simp only [Memory.write]
    split
    · rename_i hlt
      refine ⟨by simp [Memory.wf, hlt]; exact hw, fun b _ hb a ha => by simp at ha; subst ha; exact hb⟩
    · split
      · rename_i _ heq
        subst heq
        refine ⟨?_, fun b _ hb a ha => by simp at ha; subst ha; exact hb⟩
        cases rest with
        | nil => rfl
        | cons b r =>
          have := hhead b (by simp)
          simp [Memory.wf, this] at hrest ⊢; exact hrest
      · rename_i hnlt hne
        obtain ⟨h1, h2⟩ := ih hrest
        refine ⟨?_, fun b hb _ a ha => by simp at ha; subst ha; exact hb _ (by simp)⟩
        have h3 := h2 k hhead (by omega)
        cases hc : Memory.write rest i x with
        | nil => rfl
        | cons b r =>
          rw [hc] at h1 h3
          have := h3 b (by simp)
          simp [Memory.wf, this]; exact h1

/-- A write keeps the canonical form. -/
theorem Memory.wf_write {α : Type} (m : Memory α) (i : Nat) (x : α) (hw : m.wf = true) : (m.write i x).wf = true :=
  (Memory.wf_write_head m i x hw).1

/-- MemWrite keeps the canonical form. -/
theorem memWrite_wf {α : Type} (xs : List α) : ∀ (m : Memory α) (i : Nat), m.wf = true → (memWrite m i xs).wf = true := by
  induction xs with
  | nil => intro _ _ h; exact h
  | cons x xs ih => intro m i h; exact ih _ _ (Memory.wf_write m i x h)

/-- What an element reads as after MemWrite: the element written there, or what it was. -/
theorem read_memWrite {α : Type} (xs : List α) : ∀ (m : Memory α) (i j : Nat),
    (memWrite m i xs).read j = if i ≤ j ∧ j < i + xs.length then xs[j - i]? else m.read j := by
  induction xs with
  | nil =>
    intro m i j
    have : ¬ (i ≤ j ∧ j < i + ([] : List α).length) := by simp
    rw [if_neg this, memWrite]
  | cons x xs ih =>
    intro m i j
    rw [memWrite, ih, Memory.read_write]
    by_cases hji : j = i
    · subst hji; simp
    · by_cases hin : i + 1 ≤ j ∧ j < i + 1 + xs.length
      · have h1 : i ≤ j ∧ j < i + (xs.length + 1) := by omega
        have h2 : j - i = (j - (i + 1)) + 1 := by omega
        simp [hin, h1, h2]
      · have h1 : ¬ (i ≤ j ∧ j < i + (xs.length + 1)) := by omega
        rw [if_neg hin, if_neg hji, List.length_cons, if_neg h1]

/-- MemRead gives a sequence exactly when each of its elements reads as the sequence has it. -/
theorem memRead_eq_some_iff {α : Type} (m : Memory α) (xs : List α) : ∀ (i n : Nat),
    memRead m i n = some xs ↔ xs.length = n ∧ ∀ k, k < n → m.read (i + k) = xs[k]? := by
  induction xs with
  | nil =>
    intro i n
    cases n with
    | zero => simp [memRead]
    | succ n =>
      simp only [memRead]
      constructor
      · intro h; split at h <;> simp at h
      · intro h; simp at h
  | cons x xs ih =>
    intro i n
    cases n with
    | zero => simp [memRead]
    | succ n =>
      simp only [memRead]
      constructor
      · intro h
        split at h
        · rename_i a as ha has
          simp at h
          obtain ⟨rfl, rfl⟩ := h
          obtain ⟨h1, h2⟩ := (ih (i + 1) n).mp has
          refine ⟨by simp [h1], fun k hk => ?_⟩
          cases k with
          | zero => simp [ha]
          | succ k =>
            have := h2 k (by omega)
            rw [show i + (k + 1) = i + 1 + k by omega, this]; simp
        · simp at h
      · rintro ⟨h1, h2⟩
        have ha : m.read i = some x := by have := h2 0 (by omega); simpa using this
        have has : memRead m (i + 1) n = some xs := (ih (i + 1) n).mpr ⟨by simpa using h1, fun k hk => by
          have := h2 (k + 1) (by omega)
          rw [show i + 1 + k = i + (k + 1) by omega, this]; simp⟩
        rw [ha, has]

/-- MemRead of what MemWrite wrote gives it back. -/
theorem memRead_memWrite {α : Type} (m : Memory α) (xs : List α) (n : Nat) (hn : xs.length = n) :
    memRead (memWrite m 0 xs) 0 n = some xs := by
  rw [memRead_eq_some_iff]
  refine ⟨hn, fun k hk => ?_⟩
  rw [read_memWrite]
  have : 0 ≤ 0 + k ∧ 0 + k < 0 + xs.length := by omega
  rw [if_pos this]; simp

/-- A buffer written from index 0 on, where nothing was held, holds exactly what was written. -/
theorem filledTo_memWrite {α : Type} (m : Memory α) (xs : List α) (n : Nat) (hn : xs.length = n)
    (hempty : ∀ k, m.read k = none) : FilledTo (memWrite m 0 xs) (some n) := by
  intro k
  rw [read_memWrite]
  by_cases hk : k < n
  · have : 0 ≤ k ∧ k < 0 + xs.length := by omega
    rw [if_pos this]
    have : k < xs.length := by omega
    simp [this, hk]
  · have : ¬ (0 ≤ k ∧ k < 0 + xs.length) := by omega
    rw [if_neg this, hempty]
    simp [hk]

/-- The reverse: with no length, nothing is held. -/
theorem FilledTo.read_none {α : Type} {m : Memory α} (h : FilledTo m none) (k : Nat) : m.read k = none := by
  have := h k
  simpa using this

end Sys2Proof.Machine
end

