-- ==== Sys2Proof/Laws/Ops.lean ====
section
/-! SUPPORT. One lemma per shared operation that says once everything it can do. -/

namespace Sys2Proof.Machine

/-- The combinator `atIdle`: a busy block refuses, an idle one goes on. -/
theorem atIdle_cases (s : State) (k : Host.Outcome State Fault Refusal) :
    (s.phase ≠ .idle ∧ atIdle s k = .next (refuseBusy s)) ∨ (s.phase = .idle ∧ atIdle s k = k) := by
  by_cases h : s.phase = .idle
  · right; simp [atIdle, State.busy, h]
  · left; simp [atIdle, State.busy, h]

/-- The combinator `atPort`: the three refusals in their order, or the operation goes on. -/
theorem atPort_cases (long : Bool) (s : State) (k : Host.Outcome State Fault Refusal) :
    (s.phase ≠ .idle ∧ atPort long s k = .next (refuseBusy s)) ∨
    (s.phase = .idle ∧ s.fatal = true ∧ atPort long s k = .next (refuse .eFatal s)) ∨
    (s.phase = .idle ∧ s.fatal = false ∧ long = true ∧ atPort long s k = .next (refuse .eLen s)) ∨
    (s.phase = .idle ∧ s.fatal = false ∧ long = false ∧ atPort long s k = k) := by
  by_cases h : s.phase = .idle <;> cases hf : s.fatal <;> cases long <;> simp [atPort, atIdle, State.busy, h, hf]

/-- An operation that passes the checks goes on. -/
theorem atPort_goes {long : Bool} {s : State} {k : Host.Outcome State Fault Refusal} (hi : s.phase = .idle)
    (hf : s.fatal = false) (hl : long = false) : atPort long s k = k := by
  subst hl; simp [atPort, atIdle, State.busy, hi, hf]

theorem withCommand_goes {n : Nat} {command : List Byte} {o : Host.Outcome State Fault Refusal}
    (h : command.length = n) : withCommand n command o = o := by
  simp [withCommand, h]

theorem commandTooLong_eq_false {n : Nat} : commandTooLong n = false ↔ n ≤ Config.cmdMax := by
  simp [commandTooLong]

theorem commandTooLong_eq_true {n : Nat} : commandTooLong n = true ↔ Config.cmdMax < n := by
  simp [commandTooLong]

/-- Drawing a configure answer changes the scripted answers and the draw counter, nothing else. -/
theorem drawConfigure_cases (s : State) :
    ∃ a rest k, drawConfigure s = (a, { s with configureAnswers := rest, draws := k }) := by
  unfold drawConfigure
  split
  · exact ⟨_, _, s.draws, rfl⟩
  · exact ⟨Config.freeConfigure s.draws, s.configureAnswers, s.draws + 1, rfl⟩

/-- A pulse that crosses a port fits it. -/
theorem fits_onWires (w : Nat) (p : Pulse) : (p.onWires w).fits w = true := by
  simp [Pulse.fits, Pulse.onWires, Nat.mod_lt]

/-- A pulse that fits a port crosses it unchanged. -/
theorem onWires_of_fits {w : Nat} {p : Pulse} (h : p.fits w = true) : p.onWires w = p := by
  simp only [Pulse.fits, Bool.and_eq_true, decide_eq_true_eq] at h
  simp [Pulse.onWires, Nat.mod_eq_of_lt h.1, Nat.mod_eq_of_lt h.2]

/-- A train that fits the ports crosses them unchanged. -/
theorem train_onWires_of_fits {W : Widths} {h : Handle} {train : List Pulse}
    (hf : ∀ p ∈ train, p.fits W.durW = true) : (CaptureAnswer.train h train).onWires W = .train h train := by
  simp only [CaptureAnswer.onWires, CaptureAnswer.train.injEq, true_and]
  exact (List.map_congr_left fun p hp => onWires_of_fits (hf p hp)).trans (List.map_id' _)

/-- A scripted answer that is no train is drawn as it stands. -/
theorem drawCapture_of_noTrain {s : State} {rest : List CaptureAnswer} (h : s.captureAnswers = .noTrain :: rest) :
    drawCapture s = (.noTrain, { s with captureAnswers := rest }) := by
  simp [drawCapture, h, CaptureAnswer.onWires]

/-- A scripted train that fits the ports is drawn as it stands. -/
theorem drawCapture_of_train {s : State} {rest : List CaptureAnswer} {h : Handle} {train : List Pulse}
    (ha : s.captureAnswers = .train h train :: rest) (hf : ∀ p ∈ train, p.fits s.widths.durW = true) :
    drawCapture s = (.train h train, { s with captureAnswers := rest }) := by
  simp [drawCapture, ha, train_onWires_of_fits hf]

/-- Drawing a capture answer changes the scripted answers and the draw counter, nothing else, and the train that is drawn
fits the ports. -/
theorem drawCapture_cases (s : State) :
    ∃ a rest k, drawCapture s = (a, { s with captureAnswers := rest, draws := k }) ∧
      ∀ h train, a = .train h train → ∀ p ∈ train, p.fits s.widths.durW = true := by
  have key : ∀ a : CaptureAnswer, ∀ h train, a.onWires s.widths = .train h train →
      ∀ p ∈ train, p.fits s.widths.durW = true := by
    intro a h train e p hp
    cases a with
    | noTrain => simp [CaptureAnswer.onWires] at e
    | train h' train' =>
      simp only [CaptureAnswer.onWires, CaptureAnswer.train.injEq] at e
      obtain ⟨-, rfl⟩ := e
      obtain ⟨q, -, rfl⟩ := List.mem_map.mp hp
      exact fits_onWires _ _
  unfold drawCapture
  split
  · exact ⟨_, _, s.draws, rfl, key _⟩
  · exact ⟨(Config.freeCapture s.draws).onWires s.widths, s.captureAnswers, s.draws + 1, rfl, key _⟩

/-- The setup step: nothing with INITED = 1, else one CONFIGURE and INITED, or one CONFIGURE, FATAL and the exception. -/
theorem ensureInitialized_cases (pin : Pin) (s : State) :
    (s.inited = true ∧ ensureInitialized pin s = .goesOn s) ∨
    (s.inited = false ∧ ∃ rest k, ensureInitialized pin s = .goesOn
      { s with inited := true, history := s.history ++ [.configure pin .ok], configureAnswers := rest, draws := k }) ∨
    (s.inited = false ∧ ∃ rest k, ensureInitialized pin s = .raised
      { s with fatal := true, history := s.history ++ [.configure pin .fail], configureAnswers := rest, draws := k }) := by
  cases hi : s.inited with
  | true => left; simp [ensureInitialized, hi]
  | false =>
    right
    obtain ⟨a, rest, k, hd⟩ := drawConfigure_cases s
    cases a with
    | ok => left; exact ⟨rfl, rest, k, by simp [ensureInitialized, hi, hd, State.record]⟩
    | fail => right; exact ⟨rfl, rest, k, by simp [ensureInitialized, hi, hd, State.record]⟩

/-- The receive after setup, when no train comes: one CAPTURE and an empty report. -/
theorem receiveReport_of_noTrain {pin : Pin} {s : State} (h : (drawCapture s).1 = .noTrain) :
    receiveReport pin s =
      emptyReport ((drawCapture s).2.record (.capture pin Config.rxTimeout .noTrain)) := by
  simp only [receiveReport, h]

/-- The receive after setup, when a train comes: one CAPTURE, the decoded report and one RELEASE. -/
theorem receiveReport_of_train {pin : Pin} {s : State} {h : Handle} {train : List Pulse}
    (ha : (drawCapture s).1 = .train h train) :
    receiveReport pin s = releaseTrain h (writeReport (decodeFrame train)
      (holdTrain h train ((drawCapture s).2.record (.capture pin Config.rxTimeout (.train h train))))) := by
  simp only [receiveReport, ha]

/-- `withValue` stops or goes on. -/
theorem withValue_cases {α : Type} (e : Element) (x : Option α) (k : α → Host.Outcome State Fault Refusal) :
    (x = none ∧ withValue e x k = .fault (.holdsNoValue e)) ∨ ∃ a, x = some a ∧ withValue e x k = k a := by
  cases x with
  | none => left; exact ⟨rfl, rfl⟩
  | some a => right; exact ⟨a, rfl, rfl⟩

/-- What stands on the ports is performed: an operation, or a pulse word on its wire. -/
theorem runPresented_cases (run : Instr → State → Host.Outcome State Fault Refusal) (p : Presented) (s : State) :
    (∃ i, decode s.widths p = .instr i ∧ runPresented run p s = run i s.popPresented) ∨
    ∃ slot q, decode s.widths p = .pulse slot q ∧ runPresented run p s = .next (drivePulse slot q s.popPresented) := by
  cases h : decode s.widths p with
  | instr i => left; exact ⟨i, rfl, by simp [runPresented, h]⟩
  | pulse slot q => right; exact ⟨slot, q, rfl, by simp [runPresented, h]⟩

/-- At rest a host read answers what the register holds. -/
theorem hostRead_of_idle {α : Type} {e : Element} {x : Option α} {s : State} (h : s.phase = .idle) :
    s.hostRead e x = match x with
      | some a => .ok a
      | none => .error (.noValue e) := by
  cases x <;> simp [State.hostRead, State.busy, h]

theorem hostRead_of_busy {α : Type} {e : Element} {x : Option α} {s : State} (h : s.phase ≠ .idle) :
    s.hostRead e x = .error (.operationInFlight e) := by
  simp [State.hostRead, State.busy, h]

/-- A history is read event by event. -/
theorem Scan.events_append (xs ys : List Event) : ∀ sc : Scan,
    sc.events (xs ++ ys) = (sc.events xs).bind fun sc' => sc'.events ys := by
  induction xs with
  | nil => intro sc; rfl
  | cons e xs ih =>
    intro sc
    simp only [List.cons_append, Scan.events]
    cases sc.event e with
    | none => rfl
    | some sc' => exact ih sc'

end Sys2Proof.Machine
end

