-- ==== Sys2Proof/Laws/Codec.lean ====
section
/-! SUPPORT. The small lemmas of the codec, the builder and the slicer. -/

namespace Sys2Proof

theorem pulseToBit_bitToPulse (b : Bool) : pulseToBit (bitToPulse b) = b := by cases b <;> rfl

/-- A pulse whose durations are at most 3 fits every legal duration width (00 R13). -/
theorem fits_of_le_three {w : Nat} (hw : 2 ≤ w) {p : Pulse} (hlo : p.loDur ≤ 3) (hhi : p.hiDur ≤ 3) :
    p.fits w = true := by
  have h4 : 2 ^ 2 ≤ 2 ^ w := Nat.pow_le_pow_right (by decide) hw
  simp only [Pulse.fits, Bool.and_eq_true, decide_eq_true_eq]
  omega

theorem fits_bitToPulse {w : Nat} (hw : 2 ≤ w) (b : Bool) : (bitToPulse b).fits w = true := by
  cases b <;> exact fits_of_le_three hw (by decide) (by decide)

theorem fits_stop {w : Nat} (hw : 2 ≤ w) : Pulse.stop.fits w = true := fits_of_le_three hw (by decide) (by decide)

/-- A word's fields fit the duration width at which it is read. -/
theorem fits_ofWord (w x : Nat) : (Pulse.ofWord w x).fits w = true := by
  simp [Pulse.fits, Pulse.ofWord, Nat.mod_lt]

/-- Position j of an eight that is given by a function. -/
@[simp] theorem Eight.get_ofFn {α : Type} (f : Fin 8 → α) (j : Fin 8) : (Eight.ofFn f).get j = f j := by
  fin_cases j <;> rfl

/-- Two eights with the same elements are one. -/
theorem Eight.ext_get {α : Type} {g h : Eight α} (hj : ∀ j, g.get j = h.get j) : g = h := by
  cases g; cases h
  have h0 := hj 0; have h1 := hj 1; have h2 := hj 2; have h3 := hj 3
  have h4 := hj 4; have h5 := hj 5; have h6 := hj 6; have h7 := hj 7
  simp only [Eight.get] at h0 h1 h2 h3 h4 h5 h6 h7
  simp [h0, h1, h2, h3, h4, h5, h6, h7]

/-- Position j of the sequence of a group. -/
theorem Eight.toList_getElem? {α : Type} (g : Eight α) (j : Fin 8) : g.toList[j.val]? = some (g.get j) := by
  fin_cases j <;> rfl

@[simp] theorem Eight.length_toList {α : Type} (g : Eight α) : g.toList.length = 8 := rfl

@[simp] theorem Eight.ofList?_toList {α : Type} (g : Eight α) : Eight.ofList? g.toList = some g := rfl

/-- A list that is a group is that group's sequence. -/
theorem Eight.ofList?_eq_some {α : Type} {l : List α} {g : Eight α}
    (h : Eight.ofList? l = some g) : l = g.toList := by
  unfold Eight.ofList? at h
  split at h
  · simp at h; subst h; rfl
  · simp at h

/-- A list of eight pulses is a group. -/
theorem Eight.ofList?_of_length {α : Type} {l : List α} (h : l.length = 8) :
    ∃ g, Eight.ofList? l = some g := by
  match l, h with
  | [a, b, c, d, e, f, g, i], _ => exact ⟨⟨a, b, c, d, e, f, g, i⟩, rfl⟩

/-- Setting one position of a group changes that position only. -/
theorem Eight.get_set {α : Type} (g : Eight α) (i j : Fin 8) (p : α) :
    (g.set i p).get j = if j = i then p else g.get j := by
  fin_cases i <;> fin_cases j <;> rfl

/-- decodeFrame of a train is what the pseudocode of 41 R157 gives. -/
theorem decodeFrame?_length (P : List Pulse) : decodeFrame? P.length P = some (decodeFrame P) := by
  simp [decodeFrame]

/-- RLEN is the classifier's, and as many bytes are decoded. -/
theorem readBytes_length (P : List Pulse) (n : Nat) : ∀ start bs,
    readBytes P start n = some bs → bs.length = n := by
  induction n with
  | zero => intro _ bs h; simp [readBytes] at h; simp [← h]
  | succ n ih =>
    intro start bs h
    simp only [readBytes] at h
    split at h
    · rename_i b bs' _ hbs
      simp at h; subst h
      simp [ih _ _ hbs]
    · simp at h

/-- The k-th byte of consecutive ranges is the byte of the k-th range. -/
theorem readBytes_getElem? (P : List Pulse) (n : Nat) : ∀ start bs,
    readBytes P start n = some bs → ∀ k, k < n → bs[k]? = readByte P (start + 8 * k) := by
  induction n with
  | zero => intro _ _ _ k hk; omega
  | succ n ih =>
    intro start bs h k hk
    simp only [readBytes] at h
    split at h
    · rename_i b bs' hb hbs
      simp at h; subst h
      cases k with
      | zero => simp [hb]
      | succ k =>
        have := ih _ _ hbs k (by omega)
        simp only [List.getElem?_cons_succ, this]
        congr 1
        simp [Config.literals]; omega
    · simp at h

/-- The count and the bytes of a decoded frame. -/
theorem decodeFrame_eq (P : List Pulse) :
    (decodeFrame P).1 = (classify P.length).rlen ∧
    readBytes P (classify P.length).base (classify P.length).rlen = some (decodeFrame P).2 := by
  have h := decodeFrame?_length P
  simp only [decodeFrame?, Option.map_eq_some_iff] at h
  obtain ⟨bs, h1, h2⟩ := h
  rw [← h2]
  exact ⟨rfl, h1⟩

/-- Every pulse of a built train fits a legal duration width. -/
theorem fits_buildTrain {w : Nat} (hw : 2 ≤ w) (command : List Byte) : ∀ p ∈ buildTrain command, p.fits w = true := by
  intro p hp
  simp only [buildTrain, List.mem_append, List.mem_flatMap, List.mem_singleton] at hp
  rcases hp with ⟨b, -, hp⟩ | rfl
  · simp only [encodeByte, Eight.ofFn, Eight.toList, List.mem_cons, List.not_mem_nil, or_false] at hp
    rcases hp with rfl | rfl | rfl | rfl | rfl | rfl | rfl | rfl <;> exact fits_bitToPulse hw _
  · exact fits_stop hw

end Sys2Proof
end

