-- ==== Sys2Proof/Laws/PerInstr.lean ====
section
/-! SUPPORT. One lemma per constructor of Instr: the presentation that the encoder makes carries the number that
spec/opcode_table.json gives the row. -/

namespace Sys2Proof.Laws.EncodedTableRow

/-- At the widths at which the table is written, the encoded instruction carries its row's number (30 R114, R102). -/
def Statement (i : Instr) : Prop := (encode Widths.table i).tableNumber Widths.table = i.tableMatch

theorem enc (value : Byte) : Statement (.enc value) := rfl
theorem dec (pulses : PulseGroup) : Statement (.dec pulses) := rfl
theorem init (pin : Pin) : Statement (.init pin) := rfl
theorem send (pin : Pin) (n : Nat) (command : List Byte) : Statement (.send pin n command) := rfl
theorem recv (pin : Pin) : Statement (.recv pin) := rfl
theorem xfer (pin : Pin) (n : Nat) (command : List Byte) : Statement (.xfer pin n command) := rfl
theorem reserved000 : Statement .reserved000 := rfl
theorem reserved111 : Statement .reserved111 := rfl
theorem zero (slot : Fin 8) : Statement (.zero slot) := by revert slot; unfold Statement; decide
theorem one (slot : Fin 8) : Statement (.one slot) := by revert slot; unfold Statement; decide
theorem stop (slot : Fin 8) : Statement (.stop slot) := by revert slot; unfold Statement; decide

end Sys2Proof.Laws.EncodedTableRow
end

