-- ==== Sys2Proof/Laws/Sequencer.lean ====
section
/-! SUPPORT. What each part of an operation does to the state machine's registers, one lemma per part. -/

namespace Sys2Proof.Machine

/-- With INITED = 1 the setup step does nothing (42 R171). -/
theorem ensureInitialized_of_inited {pin : Pin} {s : State} (h : s.inited = true) :
    ensureInitialized pin s = .goesOn s := by
  simp [ensureInitialized, h]

/-- The draw of a capture answer does not look at PHASE. -/
theorem drawCapture_goTo (p : Phase) (s : State) :
    drawCapture (s.goTo p) = ((drawCapture s).1, (drawCapture s).2.goTo p) := by
  unfold drawCapture
  rw [goTo_captureAnswers]
  cases s.captureAnswers <;> rfl

/-- The length of a built train (41 R151). -/
theorem length_buildTrain (command : List Byte) :
    (buildTrain command).length = 8 * command.length + 1 := by
  induction command with
  | nil => rfl
  | cons b command ih =>
    simp only [buildTrain, List.flatMap_cons, List.length_append, Eight.length_toList, List.length_cons] at ih ⊢
    omega

/-- The operation is over once PHASE is IDLE. -/
theorem settle_of_idle {s : State} (h : s.phase = .idle) (k : Nat) : settle k s = .next s := by
  cases k <;> simp [settle, State.busy, h]

/-- A busy block makes its next transition. -/
theorem settle_of_busy {s : State} (h : s.phase ≠ .idle) (k : Nat) :
    settle (k + 1) s = onNext (advance s) (settle k) := by
  simp [settle, State.busy, h]

/-- The end of an operation does not depend on the PHASE it is reached from. -/
theorem complete_goTo (p : Phase) (s : State) : complete (s.goTo p) = complete s := rfl

/-- DONE is over in one transition. -/
theorem settle_done (s : State) (k : Nat) : settle (k + 1) (s.goTo .done) = .next (complete s) := by
  rw [settle_of_busy (by simp)]
  exact settle_of_idle rfl k

/-- SENDING, with the operands that its action reads (42 R180). -/
theorem advance_sending {s : State} {pin : Pin} {n : Nat} {command : List Byte} {op : TransceiverOp}
    (hpin : s.pinr = some pin) (hn : s.cmdlen = some n) (hcmd : memRead s.cmd 0 n = some command)
    (hop : s.curop = some op) (hpath : op = .xfer ∨ op = .send) :
    advance (s.goTo .sending) =
      .next ((transmitCommand pin n command s).goTo (if op = .xfer then .awaitingResponse else .done)) := by
  have hlen : command.length = n := ((memRead_eq_some_iff _ _ _ _).mp hcmd).1
  have htx := memRead_memWrite s.tx (buildTrain command) (8 * n + 1) (by rw [length_buildTrain, hlen])
  rcases hpath with rfl | rfl <;>
    simp [advance, advanceSending, hpin, hn, hcmd, hop, htx, withValue, afterSending, State.record, transmitCommand,
      State.goTo]

/-- AWAITING_RESPONSE (42 R181), for whatever answer is drawn. -/
theorem advance_awaiting {s : State} {pin : Pin} (hpin : s.pinr = some pin) :
    advance (s.goTo .awaitingResponse) =
      match (drawCapture s).1 with
      | .noTrain => .next (((drawCapture s).2.record (.capture pin Config.rxTimeout .noTrain)).goTo .timeout)
      | .train h train => .next
        ((holdTrain h train ((drawCapture s).2.record (.capture pin Config.rxTimeout (.train h train)))).goTo .decoding) := by
  simp only [advance, advanceAwaiting, goTo_phase, goTo_pinr, hpin, withValue, drawCapture_goTo]
  cases (drawCapture s).1 <;> rfl

/-- DECODING (42 R183) of a train that is held. -/
theorem advance_decoding {s : State} {h : Handle} {train : List Pulse} :
    advance ((holdTrain h train s).goTo .decoding) =
      .next ((releaseTrain h (writeReport (decodeFrame train) (holdTrain h train s))).goTo .done) := by
  simp only [advance, advanceDecoding, goTo_phase, goTo_capcnt, goTo_caph, goTo_rx, holdTrain_capcnt, holdTrain_caph,
    holdTrain_rx, withValue, decodeFrame?_length]
  rfl

/-- From AWAITING_RESPONSE the state machine does what RECV's pseudocode does (42 R181 to R184, R174). -/
theorem settle_awaiting {s : State} {pin : Pin} (hpin : s.pinr = some pin) (k : Nat) :
    settle (k + 3) (s.goTo .awaitingResponse) = .next (complete (receiveReport pin s)) := by
  rw [settle_of_busy (by simp), advance_awaiting hpin]
  cases ha : (drawCapture s).1 with
  | noTrain =>
    rw [receiveReport_of_noTrain ha]
    simp only [onNext]
    rw [settle_of_busy (by simp)]
    exact settle_done _ k
  | train h train =>
    rw [receiveReport_of_train ha]
    simp only [onNext]
    rw [settle_of_busy (by simp), advance_decoding]
    exact settle_done _ k

end Sys2Proof.Machine
end

