-- ==== Sys2Proof/Tests/Slice0.lean ====
section
/-! SUPPORT. The model's own tests: ill-formed operations, decoding by words written out from 30_encoding.md, small cases
whose results are those of 95_test_vectors.md, and one witness for the hypotheses of each statement. -/

namespace Sys2Proof.Tests

open Sys2Proof Sys2Proof.Machine

/-! ### Pulses, trains and states to test with -/

/-- The letters Z, O and S of 95_test_vectors.md, written from the field values of 30 R102. -/
abbrev Z : Pulse := ⟨3, false, 1, true⟩
abbrev O : Pulse := ⟨1, false, 3, true⟩
abbrev S : Pulse := ⟨2, false, 2, true⟩

/-- 95 F1, F2, F3, F8. -/
def f1 : List Pulse := [O, Z, Z, Z, Z, Z, Z, O, S]
def f2 : List Pulse := [O, Z, Z, Z, Z, Z, Z, O, O]
def f3 : List Pulse :=
  [Z, Z, Z, O, Z, Z, O, Z] ++ [Z, Z, O, O, Z, O, Z, Z] ++ [Z, O, Z, O, Z, O, O, Z] ++ [S]
def f8 : List Pulse := [O, Z, Z, Z, Z, Z, Z, O, S, S]

/-- The 64 data pulses of 95 F5, and F5 itself. -/
def f5data : List Pulse :=
  [Z, Z, Z, Z, Z, Z, Z, O] ++ [Z, Z, O, Z, Z, Z, O, O] ++ [Z, O, Z, Z, Z, O, Z, O] ++ [Z, O, O, Z, Z, O, O, O]
    ++ [O, Z, Z, Z, O, Z, Z, O] ++ [O, Z, O, Z, O, Z, O, O] ++ [O, O, Z, Z, O, O, Z, O] ++ [O, O, O, Z, O, O, O, O]
def f5 : List Pulse := List.replicate 24 O ++ [S] ++ f5data ++ [S]

/-- The start state of 95 section 2.6: after reset and one successful INIT 4. -/
def ready : State := { State.reset with inited := true, history := [.configure 4 .ok] }

/-- After a failed INIT 4. -/
def faulted : State := { State.reset with fatal := true, err := .eHwcfg, history := [.configure 4 .fail] }

/-- SEND 4, [0x00] in flight, before its transmission. -/
def sending : State :=
  { ready with phase := .sending, curop := some .send, pinr := some 4, cmdlen := some 1, cmd := [(0, 0)] }

/-- RECV 4 in flight, before its capture. -/
def awaiting : State := { ready with phase := .awaitingResponse, curop := some .recv, pinr := some 4 }

/-- RECV 4 in flight, with the train F1 held. -/
def decoding : State :=
  { ready with
    phase := .decoding, curop := some .recv, pinr := some 4, capheld := true, caph := some 7, capcnt := some 9, rx := f1
    history := [.configure 4 .ok, .capture 4 100 (.train 7 f1)] }

/-- The state an outcome gives, if it gives one. -/
def after (o : Host.Outcome State Fault Refusal) : Option State :=
  match o with
  | .next s => some s
  | .fault _ => none
  | .refused _ => none

/-! ### WellFormed: what the check refuses (30 R115) -/

theorem test_send_command_not_n_bytes_is_ill_formed : (Instr.send 4 2 [0]).wf Widths.table = false := by decide
theorem test_xfer_command_not_n_bytes_is_ill_formed : (Instr.xfer 4 0 [0]).wf Widths.table = false := by decide

/-- An identifier of 9 bits on 8 wires, and of 2 bits on one wire (00 R15). -/
theorem test_pin_too_wide_is_ill_formed :
    (Instr.init 256).wf Widths.table = false ∧ (Instr.recv 256).wf Widths.table = false ∧
    (Instr.send 256 0 []).wf Widths.table = false ∧ (Instr.xfer 256 0 []).wf Widths.table = false ∧
    (Instr.recv 2).wf ⟨2, 1⟩ = false ∧ (Instr.recv 255).wf Widths.table = true := by decide

/-- A duration of 16 bits on 15 wires, in the first and in the last pulse (00 R13). -/
theorem test_duration_too_wide_is_ill_formed :
    (Instr.dec ⟨⟨32768, false, 1, true⟩, O, O, O, O, O, O, O⟩).wf Widths.table = false ∧
    (Instr.dec ⟨O, O, O, O, O, O, O, ⟨1, false, 32768, true⟩⟩).wf Widths.table = false ∧
    (Instr.dec ⟨O, O, O, O, O, O, O, ⟨1, false, 32767, true⟩⟩).wf Widths.table = true := by decide

/-! ### Decoding: every row by its code or word (30 R114, R102) -/

/-- Ports with every operand port driven, so that a decoder that takes an operand from the wrong port is seen. -/
def ports (op : BitVec 3) : PortWords :=
  ⟨op, 4, [0x41], 0xA5, ⟨0x80030001, 0x80010003, 0x80030001, 0x80010003, 0x80010003, 0x80030001, 0x80010003, 0x80020002⟩⟩

theorem test_decode_000 : decode Widths.table (.operation (ports 0b000)) = .instr .reserved000 := by decide
theorem test_decode_001 : decode Widths.table (.operation (ports 0b001)) = .instr (.enc 0xA5) := by decide
theorem test_decode_010 : decode Widths.table (.operation (ports 0b010)) = .instr (.dec ⟨O, Z, O, Z, Z, O, Z, S⟩) := by decide
theorem test_decode_011 : decode Widths.table (.operation (ports 0b011)) = .instr (.init 4) := by decide
theorem test_decode_100 : decode Widths.table (.operation (ports 0b100)) = .instr (.send 4 1 [0x41]) := by decide
theorem test_decode_101 : decode Widths.table (.operation (ports 0b101)) = .instr (.recv 4) := by decide
theorem test_decode_110 : decode Widths.table (.operation (ports 0b110)) = .instr (.xfer 4 1 [0x41]) := by decide
theorem test_decode_111 : decode Widths.table (.operation (ports 0b111)) = .instr .reserved111 := by decide

/-- A pulse word bit by bit, hi_lvl, hi_dur (15 bits), lo_lvl, lo_dur (15 bits) from bit 31 down (30 R101). -/
theorem test_decode_zero_word :
    decode Widths.table (.pulseWord 3 0b1_000000000000001_0_000000000000011) = .instr (.zero 3) := by decide
theorem test_decode_one_word :
    decode Widths.table (.pulseWord 7 0b1_000000000000011_0_000000000000001) = .instr (.one 7) := by decide
theorem test_decode_stop_word :
    decode Widths.table (.pulseWord 0 0b1_000000000000010_0_000000000000010) = .instr (.stop 0) := by decide

/-- A word that differs from ZERO's in one bit is a pulse of no row, and legal on its wire (30 R111). -/
theorem test_decode_word_of_no_row :
    decode Widths.table (.pulseWord 2 0b0_000000000000001_0_000000000000011) = .pulse 2 ⟨3, false, 1, false⟩ := by decide

/-- At other widths the fields stand elsewhere: 4 bits of duration, 10 bits of word (30 R101), and one bit of pin. -/
theorem test_decode_at_other_widths :
    decode ⟨4, 1⟩ (.pulseWord 3 0b1_0011_0_0001) = .instr (.one 3) ∧
    decode ⟨4, 1⟩ (.operation (PortWords.ofCode 0b011)) = .instr (.init 0) ∧
    decode ⟨4, 1⟩ (.operation { PortWords.ofCode 0b011 with pin := 1 }) = .instr (.init 1) := by decide

/-- The fields of a word with its levels swapped, a maximal low and an even high duration (30 R101). -/
theorem test_pulse_word_fields :
    Pulse.ofWord 15 0b0_000000000000110_1_111111111111111 = ⟨32767, true, 6, false⟩ := by decide

/-- 30 R111: the pulse (0, 7) with a swapped level is no row; on wire 0 it reads 1, through the step. -/
theorem test_any_pulse_word_drives_its_wire :
    (after (step { State.reset with presented := [.pulseWord 0 0b0_000000000000111_1_000000000000000] })).map
      (fun t => (t.decOut, t.decIn.p0, t.presented)) = some (0x80, ⟨0, true, 7, false⟩, []) := by decide

/-! ### The codec (95 sections 2.1, 2.2) -/

theorem test_enc_a5 : encodeByte 0xA5 = ⟨O, Z, O, Z, Z, O, Z, O⟩ := by decide
/-- 95 X14: ENC completes in a faulted state, and nothing of the block changes. -/
theorem test_enc_in_faulted_state :
    (after (exec (.enc 0xA5) faulted)).map (fun t => (t.encOut, t.err, t.history)) =
      some (⟨O, Z, O, Z, Z, O, Z, O⟩, .eHwcfg, [.configure 4 .fail]) := by decide

/-- 95 section 2.2: the drifted durations. -/
theorem test_dec_drifted :
    (after (exec (.dec ⟨⟨2, false, 5, true⟩, ⟨4, false, 2, true⟩, ⟨1, false, 2, true⟩, ⟨3, false, 3, true⟩,
      ⟨6, false, 1, true⟩, ⟨0, false, 9, true⟩, ⟨5, false, 4, true⟩, ⟨32766, false, 32767, true⟩⟩) ready)).map
        State.decOut = some 0xA5 := by decide
/-- 95 section 2.2: the extremes of a 15-bit duration, compared unsigned. -/
theorem test_dec_extremes :
    decodeByte ⟨⟨32767, false, 32767, true⟩, ⟨32767, false, 0, true⟩, ⟨0, false, 32767, true⟩, ⟨1, false, 1, true⟩,
      ⟨2, false, 3, true⟩, ⟨3, false, 2, true⟩, ⟨10, false, 11, true⟩, ⟨11, false, 10, true⟩⟩ = 0x2A := by decide

/-- 95 section 2.2: pulse 0 is bit 7. STOP reads 0 on a wire that read 1. -/
theorem test_one_drives_bit_7 : (after (exec (.one 0) State.reset)).map State.decOut = some 0x80 := by decide
theorem test_zero_drives_bit_0 :
    (after (exec (.zero 7) { State.reset with decIn := ⟨O, O, O, O, O, O, O, O⟩ })).map State.decOut = some 0xFE := by
  decide
theorem test_stop_reads_zero :
    (after (exec (.stop 1) { State.reset with decIn := ⟨O, O, O, O, O, O, O, O⟩ })).map State.decOut = some 0xBF := by
  decide

/-! ### Builder, classifier, slicer (95 sections 2.3 to 2.5) -/

theorem test_buildTrain_two_bytes :
    buildTrain [0xA5, 0x5A] = [O, Z, O, Z, Z, O, Z, O, Z, O, Z, O, O, Z, O, Z, S] := by decide
theorem test_classify :
    [0, 1, 8, 9, 10, 24, 25, 26, 33, 34, 65, 89, 90, 91, 97, 1000, 65535].map classify =
      [.unrecognized, .unrecognized, .unrecognized, .r1, .unrecognized, .unrecognized, .r3, .unrecognized,
       .unrecognized, .unrecognized, .unrecognized, .unrecognized, .r8, .r8, .r8, .r8, .r8] := by decide
theorem test_decodeFrame_f2 : decodeFrame f2 = (1, [0x81]) := by decide
theorem test_decodeFrame_f5 :
    decodeFrame f5 = (8, [0x01, 0x23, 0x45, 0x67, 0x89, 0xAB, 0xCD, 0xEF]) := by decide
theorem test_decodeFrame_f7 : decodeFrame (f5.take 89) = (0, []) := by decide

/-! ### Transceiver operations (95 section 2.6) -/

/-- X12 for INIT: the exception. -/
theorem test_init_failure :
    (after (exec (.init 4) { State.reset with configureAnswers := [.fail] })).map
      (fun t => (t.fatal, t.inited, t.err, t.phase, t.history)) =
        some (true, false, .eHwcfg, .idle, [.configure 4 .fail]) := by decide
/-- X10: a second pin is not configured. -/
theorem test_init_is_idempotent :
    (after (exec (.init 7) ready)).map (fun t => (t.err, t.rlen, t.history)) =
      some (.noError, none, [.configure 4 .ok]) := by decide

/-- X1. -/
theorem test_send :
    (after (exec (.send 4 1 [0x00]) ready)).map (fun t => (t.err, t.rlen, t.history)) =
      some (.noError, none, [.configure 4 .ok, .transmit 4 [Z, Z, Z, Z, Z, Z, Z, Z, S]]) := by decide
/-- X2. -/
theorem test_send_empty :
    (after (exec (.send 4 0 []) ready)).map State.history = some [.configure 4 .ok, .transmit 4 [S]] := by decide

/-- X3. -/
theorem test_recv_no_response :
    (after (exec (.recv 4) { ready with captureAnswers := [.noTrain] })).map (fun t => (t.rlen, t.err, t.history)) =
      some (some 0, .noError, [.configure 4 .ok, .capture 4 100 .noTrain]) := by decide
/-- X5: a train of unrecognized length is released all the same. -/
theorem test_recv_unrecognized :
    (after (exec (.recv 4) { ready with captureAnswers := [.train 7 f8] })).map
      (fun t => (t.rlen, t.capheld, t.history)) =
        some (some 0, false, [.configure 4 .ok, .capture 4 100 (.train 7 f8), .release 7]) := by decide

/-- X6. -/
theorem test_xfer_three_bytes :
    (after (exec (.xfer 4 1 [0x00]) { ready with captureAnswers := [.train 7 f3] })).map
      (fun t => (t.rlen, t.rpt, t.history)) =
        some (some 3, [(0, 0x12), (1, 0x34), (2, 0x56)],
          [.configure 4 .ok, .transmit 4 [Z, Z, Z, Z, Z, Z, Z, Z, S], .capture 4 100 (.train 7 f3), .release 7]) := by
  decide
/-- X11, from reset, through the step. -/
theorem test_xfer_after_reset :
    (after (step { State.reset with
      presented := [encode Widths.table (.xfer 4 1 [0x00])], configureAnswers := [.ok], captureAnswers := [.noTrain] })).map
        (fun t => (t.inited, t.rlen, t.history.map Event.isConfigure)) =
      some (true, some 0, [true, false, false]) := by decide

/-- The environment's pulses arrive with DUR_W-bit durations (43 R203, 00 R13): on an instance of 4 bits, 17 is 1. -/
theorem test_captured_durations_have_the_instances_width :
    (drawCapture { State.resetAt ⟨4, 1⟩ with captureAnswers := [.train 7 [⟨17, false, 3, true⟩]] }).1 =
      .train 7 [⟨1, false, 3, true⟩] := by decide

/-- 10 R44, 42 R186: RLEN is written in DECODING and readable only when the operation is over. -/
theorem test_report_is_refused_in_done_and_readable_at_idle :
    (after (advance decoding)).map (fun t => (t.phase, t.rlen, t.hostReadRlen.isOk, (t.hostReadRpt 0).isOk)) =
      some (.done, some 1, false, false) ∧
    (after (onNext (advance decoding) advance)).map (fun t => (t.phase, t.hostReadRlen.isOk, (t.hostReadRpt 0).isOk)) =
      some (.idle, true, true) := by decide

/-- X16, X13, X17. -/
theorem test_reserved000_at_idle :
    (after (exec .reserved000 ready)).map (fun t => (t.err, t.signal)) = some (.eOp, some (.refused .eOp)) := by decide
theorem test_reserved111_in_faulted_state :
    (after (exec .reserved111 faulted)).map (fun t => (t.err, t.fatal)) = some (.eOp, true) := by decide
theorem test_faulted_refuses :
    (after (exec (.recv 4) faulted)).map (fun t => (t.err, t.history)) = some (.eFatal, [.configure 4 .fail]) := by
  decide
theorem test_busy_is_not_stored :
    (after (exec (.init 4) sending)).map (fun t => (t.err, t.phase, t.signal)) =
      some (.noError, .sending, some (.refused .eBusy)) := by decide

/-! ### One witness for the hypotheses of each statement -/

/-- The widths of the statements at every width: the least, and the table's. -/
theorem witness_legal_widths : (⟨2, 1⟩ : Widths).legal = true ∧ Widths.table.legal = true := by decide

/-- A pulse that fits the least width, at the ends of its range. -/
theorem witness_PulseWordLayoutAtEveryWidth : (⟨3, true, 0, false⟩ : Pulse).fits 2 = true := by decide

/-- An instruction that decodes, at the greatest pin, and a pulse of no row. -/
theorem witness_DecodeAndEncodeAgree :
    (Instr.send 1 1 [0x41]).wf ⟨2, 1⟩ = true ∧ (Instr.send 2 1 [0x41]).wf ⟨2, 1⟩ = false ∧
    (Instr.xfer 1 2 [0x41]).wf ⟨2, 1⟩ = false ∧
    decode Widths.table (.operation (ports 0b110)) = .instr (.xfer 4 1 [0x41]) ∧
    decode ⟨2, 1⟩ (.pulseWord 7 0) = .pulse 7 ⟨0, false, 0, false⟩ := by decide

theorem witness_TieReadsZero :
    (⟨32767, true, 32767, false⟩ : Pulse).loDur = (⟨32767, true, 32767, false⟩ : Pulse).hiDur := by decide

/-- CodecOperationsWriteNoState: ENC and DEC answer, also at a busy block. -/
theorem witness_CodecOperationsWriteNoState :
    (∃ t, exec (.enc 0x80) ready = .next t) ∧ (∃ t, exec (.dec ⟨O, Z, O, Z, Z, O, Z, S⟩) ready = .next t) ∧
    (∃ t, exec (.enc 0x80) sending = .next t) ∧ ∃ t, exec (.dec ⟨O, Z, O, Z, Z, O, Z, S⟩) sending = .next t :=
  ⟨⟨_, rfl⟩, ⟨_, rfl⟩, ⟨_, rfl⟩, ⟨_, rfl⟩⟩

/-- CodecOperationsCompleteAtTheIdlePort, ReservedCodesAreRefusedWithEOp and HostResetOnlyAtIdle (both cases). -/
theorem witness_idle_and_busy : ready.phase = .idle ∧ faulted.phase = .idle ∧ decoding.phase ≠ .idle := by decide

theorem witness_EncodeByteIsInjectiveIntoZeroAndOne : 2 ≤ 2 ∧ encodeByte 0x80 = encodeByte 0x80 := ⟨by decide, rfl⟩

theorem witness_OnlyEightPulsesAreAnOperand : (f1.take 8).length = 8 ∧ (f1.take 7).length ≠ 8 ∧ f1.length ≠ 8 := by
  decide

/-- A word of a row, one of none, and one with bits above the port's. -/
theorem witness_EveryPulseWordIsLegalOnItsWire :
    { sending with presented := [.pulseWord 7 0x80030001] }.presented = .pulseWord 7 0x80030001 :: [] ∧
    { ready with presented := [.pulseWord 0 0] }.presented = .pulseWord 0 0 :: [] ∧
    { ready with presented := [.pulseWord 3 0x1FFFFFFFF] }.presented = .pulseWord 3 0x1FFFFFFFF :: [] := ⟨rfl, rfl, rfl⟩

/-- The first and the last byte. -/
theorem witness_BuildTrainElements : [0xA5#8, 0x5A#8][0]? = some 0xA5#8 ∧ [0xA5#8, 0x5A#8][1]? = some 0x5A#8 := by decide

/-- The first pulse and the last. -/
theorem witness_BuiltTrainHasOneStopAtItsEnd :
    (buildTrain [0x41#8])[0]? = some Z ∧ (buildTrain [0x41#8])[8]? = some S := by decide

/-- Each class, at the ends of its range. -/
theorem witness_DecodeFrameSlices :
    f1.length = 9 ∧ f3.length = 25 ∧ 90 ≤ f5.length ∧ f5.length = 90 ∧
    ((f5.take 89).length ≠ 9 ∧ (f5.take 89).length ≠ 25 ∧ (f5.take 89).length < 90) ∧
    (f8.length ≠ 9 ∧ f8.length ≠ 25 ∧ f8.length < 90) := by decide

/-- F1 and F2 differ outside the range read only. -/
theorem witness_DecodeFrameIgnoresUnreadPulses : classify f1.length = classify f2.length ∧
    ∀ k, (classify f1.length).base ≤ k → k < (classify f1.length).base + 8 * (classify f1.length).rlen →
      ∀ p q, f1[k]? = some p → f2[k]? = some q → pulseToBit p = pulseToBit q := by
  refine ⟨by decide, fun k _ hk p q hp hq => ?_⟩
  have h : ∀ k, k < 8 → f1[k]? = f2[k]? := by decide
  rw [h k hk, hq] at hp
  rw [Option.some.inj hp]

/-- A report of eight bytes in a train of 90 pulses, and one of one byte in a train of 9. -/
theorem witness_CanonicalReportDecodesToItsBytes :
    (List.replicate 25 O).length = (classify ((List.replicate 25 O).length + 8 * [1, 2, 3, 4, 5, 6, 7, 8].length + [S].length)).base ∧
    [1, 2, 3, 4, 5, 6, 7, 8].length = (classify ((List.replicate 25 O).length + 8 * [1, 2, 3, 4, 5, 6, 7, 8].length + [S].length)).rlen ∧
    ([] : List Pulse).length = (classify (([] : List Pulse).length + 8 * [0x81].length + [S].length)).base ∧
    [0x81].length = (classify (([] : List Pulse).length + 8 * [0x81].length + [S].length)).rlen ∧
    [0x40, 0x03, 0x00].length = 3 := by decide

theorem witness_BusyBlockRefusesEveryOperation : sending.phase ≠ .idle ∧ instrPin? (.recv 4) = some 4 := by decide

/-- Also with a command that is too long. -/
theorem witness_FatalBlockRefusesTransceiverOperations :
    faulted.phase = .idle ∧ faulted.fatal = true ∧ instrPin? (.recv 4) = some 4 ∧
    instrPin? (.send 4 (Config.cmdMax + 1) (List.replicate (Config.cmdMax + 1) 0)) = some 4 := ⟨rfl, rfl, rfl, rfl⟩

theorem witness_OverlongCommandIsRefusedWithELen :
    ready.phase = .idle ∧ ready.fatal = false ∧ Config.cmdMax < Config.cmdMax + 1 := ⟨rfl, rfl, Nat.lt_succ_self _⟩

/-- The commands of the statements about SEND and XFER: the empty one, and one of CMD_MAX bytes. -/
theorem witness_commands :
    ([] : List Byte).length = 0 ∧ 0 ≤ Config.cmdMax ∧
    (List.replicate Config.cmdMax 0#8).length = Config.cmdMax ∧ Config.cmdMax ≤ Config.cmdMax :=
  ⟨rfl, Nat.zero_le _, List.length_replicate .., Nat.le_refl _⟩

/-- With each of the four operations. -/
theorem witness_ConfigureFailureTakesTheException :
    let s := { State.reset with configureAnswers := [.fail] }
    s.phase = .idle ∧ s.fatal = false ∧ s.inited = false ∧ s.configureAnswers = .fail :: [] ∧
    [0x41#8].length = 1 ∧ 1 ≤ Config.cmdMax := ⟨rfl, rfl, rfl, rfl, rfl, Nat.le_add_left 1 (Config.cmdMaxOver + 2)⟩

/-- InitConfiguresOnce and SendTransmitsTheBuiltTrain, both cases. -/
theorem witness_InitConfiguresOnce_SendTransmitsTheBuiltTrain :
    let s := { State.reset with configureAnswers := [.ok] }
    s.phase = .idle ∧ s.fatal = false ∧ s.inited = false ∧ s.configureAnswers = .ok :: [] ∧
    ready.phase = .idle ∧ ready.fatal = false ∧ ready.inited = true ∧ [0x41#8].length = 1 ∧ 1 ≤ Config.cmdMax :=
  ⟨rfl, rfl, rfl, rfl, rfl, rfl, rfl, rfl, Nat.le_add_left 1 (Config.cmdMaxOver + 2)⟩

/-- A captured train whose durations have the instance's width. -/
theorem witness_train_fits : ∀ p ∈ f1, p.fits ready.widths.durW = true := by decide

/-- RecvDecodesAndReleases, XferSendsThenReceives and ReceiveForEveryCaptureAnswer, both answers, with the setup done. -/
theorem witness_receiving :
    let s := { ready with captureAnswers := [.noTrain] }
    let t := { ready with captureAnswers := [.train 7 f1] }
    (s.phase = .idle ∧ s.fatal = false ∧ s.inited = true ∧ s.captureAnswers = .noTrain :: []) ∧
    (t.phase = .idle ∧ t.fatal = false ∧ t.inited = true ∧ t.captureAnswers = .train 7 f1 :: []) ∧
    (∀ p ∈ f1, p.fits t.widths.durW = true) ∧ [0x41#8].length = 1 ∧ 1 ≤ Config.cmdMax :=
  ⟨⟨rfl, rfl, rfl, rfl⟩, ⟨rfl, rfl, rfl, rfl⟩, witness_train_fits, rfl, Nat.le_add_left 1 (Config.cmdMaxOver + 2)⟩

/-- The same two of RecvDecodesAndReleases and XferSendsThenReceives from reset, where the CONFIGURE comes first. -/
theorem witness_receiving_from_reset :
    let s := { State.reset with configureAnswers := [.ok], captureAnswers := [.noTrain] }
    let t := { State.reset with configureAnswers := [.ok], captureAnswers := [.train 7 f1] }
    (s.phase = .idle ∧ s.fatal = false ∧ s.inited = false ∧ s.configureAnswers = .ok :: [] ∧
      s.captureAnswers = .noTrain :: []) ∧
    (t.phase = .idle ∧ t.fatal = false ∧ t.inited = false ∧ t.configureAnswers = .ok :: [] ∧
      t.captureAnswers = .train 7 f1 :: [] ∧ ∀ p ∈ f1, p.fits t.widths.durW = true) :=
  ⟨⟨rfl, rfl, rfl, rfl, rfl⟩, ⟨rfl, rfl, rfl, rfl, rfl, witness_train_fits⟩⟩

theorem witness_XferIsSendThenRecv :
    [0x00#8].length = 1 ∧ 1 ≤ Config.cmdMax ∧ ∃ t, exec (.send 4 1 [0x00]) ready = .next t ∧ t.fatal = false :=
  ⟨rfl, Nat.le_add_left 1 (Config.cmdMaxOver + 2), _, rfl, rfl⟩

theorem witness_EveryWellFormedInstructionAnswersNext : (Instr.xfer 4 1 [0x41]).wf ready.widths = true := by decide

/-- A state of the invariant that is not the state after reset. -/
theorem ready_invariant : BlockInvariant ready := by
  constructor
  case decInFits => decide
  all_goals simp [ready, State.reset, State.resetAt, Widths.table, Widths.legal, FilledTo, Memory.read, AtPhase,
    Scan.start, Scan.events, Scan.event, State.scan, Memory.wf]

/-- A state of the invariant in the middle of an operation, with a train held. -/
theorem decoding_invariant : BlockInvariant decoding := by
  constructor
  case decInFits => decide
  all_goals simp [decoding, ready, State.reset, State.resetAt, Widths.table, Widths.legal, FilledTo, Memory.read,
    AtPhase, Scan.start, Scan.events, Scan.event, State.scan, Memory.wf, f1, Pin.fits, Pulse.fits]

theorem witness_OperationEndsInSuccessOrFault :
    BlockInvariant ready ∧ ready.phase = .idle ∧ ready.fatal = false ∧ instrPin? (.send 4 1 [0x41]) = some 4 ∧
    (Instr.send 4 1 [0x41]).wf ready.widths = true ∧
    ∀ p n c, Instr.send 4 1 [0x41] = .send p n c ∨ Instr.send 4 1 [0x41] = .xfer p n c → n ≤ Config.cmdMax := by
  refine ⟨ready_invariant, rfl, rfl, rfl, rfl, fun p n c h => ?_⟩
  rcases h with h | h
  · injection h with _ hn _
    exact hn ▸ Nat.le_add_left 1 (Config.cmdMaxOver + 2)
  · cases h

/-- Each setup case: the setup done, an answer ok, an answer fail; the operation is any of the four, here XFER and INIT. -/
theorem witness_AcceptLatchesAndSetsUp :
    (ready.phase = .idle ∧ ready.fatal = false ∧ ready.inited = true) ∧
    (∀ a : ConfigureAnswer, let s := { State.reset with configureAnswers := [a] }
      s.phase = .idle ∧ s.fatal = false ∧ s.inited = false ∧ s.configureAnswers = a :: []) ∧
    [0x41#8].length = 1 ∧ 1 ≤ Config.cmdMax ∧
    (∃ t, accept (.xfer 4 1 [0x41]) ready = .next t) ∧ (∃ t, accept (.send 4 1 [0x41]) ready = .next t) ∧
    (∃ t, accept (.init 4) ready = .next t) ∧ ∃ t, accept (.recv 4) ready = .next t :=
  ⟨⟨rfl, rfl, rfl⟩, fun _ => ⟨rfl, rfl, rfl, rfl⟩, rfl, Nat.le_add_left 1 (Config.cmdMaxOver + 2),
    ⟨_, rfl⟩, ⟨_, rfl⟩, ⟨_, rfl⟩, ⟨_, rfl⟩⟩

theorem witness_SendingTransition :
    sending.phase = .sending ∧ sending.pinr = some 4 ∧ sending.cmdlen = some 1 ∧ memRead sending.cmd 0 1 = some [0] ∧
    sending.curop = some .send := by decide

theorem witness_SendingTransition_of_XFER :
    let s := { sending with curop := some .xfer }
    s.phase = .sending ∧ s.pinr = some 4 ∧ s.cmdlen = some 1 ∧ memRead s.cmd 0 1 = some [0] ∧ s.curop = some .xfer := by
  decide

theorem witness_AwaitingResponseTransition :
    awaiting.phase = .awaitingResponse ∧ awaiting.pinr = some 4 ∧
    { awaiting with captureAnswers := [.noTrain] }.captureAnswers = .noTrain :: [] ∧
    { awaiting with captureAnswers := [.train 7 f1] }.captureAnswers = .train 7 f1 :: [] ∧
    (∀ p ∈ f1, p.fits awaiting.widths.durW = true) := by decide

theorem witness_TimeoutTransition_DoneTransition :
    { awaiting with phase := .timeout }.phase = .timeout ∧ { awaiting with phase := .done }.phase = .done := by decide

/-- A recognized train, and one of unrecognized length. -/
theorem witness_DecodingTransition :
    (decoding.phase = .decoding ∧ decoding.capcnt = some decoding.rx.length ∧ decoding.caph = some 7) ∧
    { decoding with rx := f8, capcnt := some 10 }.capcnt = some { decoding with rx := f8, capcnt := some 10 }.rx.length ∧
    (f8.length ≠ 9 ∧ f8.length ≠ 25 ∧ f8.length < 90) := by decide

theorem witness_SequencerAgreesWithOperations :
    ready.phase = .idle ∧ (Instr.xfer 4 1 [0x41]).wf ready.widths = true := by decide

/-- EveryOperationEnds, EveryStepKeepsTheInvariant and NoStepReadsWhatHoldsNoValue: in the middle of an operation. -/
theorem witness_invariant_and_step :
    BlockInvariant decoding ∧ (∃ t, step decoding = .next t) ∧ ∃ t, seqStep decoding = .next t :=
  ⟨decoding_invariant, ⟨_, rfl⟩, ⟨_, rfl⟩⟩

theorem witness_StepPerformsThePresentedOperation :
    ({ ready with presented := [encode Widths.table (.recv 4)] }.presented = encode Widths.table (.recv 4) :: [] ∧
      decode ready.widths (encode Widths.table (.recv 4)) = .instr (.recv 4)) ∧
    decode ready.widths (.pulseWord 0 0) = .pulse 0 ⟨0, false, 0, false⟩ := by decide

theorem witness_NothingPresentedWaitsOrGoesOn :
    (ready.presented = [] ∧ ready.phase = .idle) ∧ decoding.presented = [] ∧ decoding.phase ≠ .idle := by decide

/-- A faulted block stays faulted, a set-up block stays set up: both premises with a step. -/
theorem witness_NoStepClearsInitedOrFatal :
    (ready.inited = true ∧ ∃ t, step ready = .next t) ∧ (faulted.fatal = true ∧ ∃ t, seqStep faulted = .next t) :=
  ⟨⟨rfl, _, rfl⟩, ⟨rfl, _, rfl⟩⟩

theorem witness_EventsAreAppendedAndCarryThePin :
    (ready.inited = true ∧ ∃ t, seqStep ready = .next t) ∧ ∃ t, exec (.send 4 1 [0x00]) ready = .next t :=
  ⟨⟨rfl, _, rfl⟩, ⟨_, rfl⟩⟩

theorem witness_FaultedBlockMakesNoEvent :
    let s := faulted.withFetchWord 8 0b101
    Faulted s ∧ s.phase = .idle ∧ ∃ t, step s = .next t := ⟨rfl, rfl, _, rfl⟩

/-- A received train with its first and last report byte and the first index beyond; a refused operation; an accepted INIT;
an operation in flight. -/
theorem witness_ReportIsReadableInItsWindow :
    (let s := { ready with captureAnswers := [.train 7 f3] }
     s.phase = .idle ∧ s.fatal = false ∧ s.inited = true ∧ s.captureAnswers = .train 7 f3 :: [] ∧
     (∀ p ∈ f3, p.fits s.widths.durW = true) ∧
     (∃ t, exec (.recv 4) s = .next t) ∧ (decodeFrame f3).2[0]? = some 0x12 ∧ (decodeFrame f3).2[2]? = some 0x56 ∧
     (decodeFrame f3).1 ≤ 3) ∧
    (instrPin? (.enc 1) = none ∧ ∃ t, exec (.enc 1) ready = .next t) ∧
    (∃ t, exec (.recv 4) faulted = .next t ∧ t.signal = some (.refused .eFatal)) ∧
    (∃ t, exec (.init 4) ready = .next t) ∧ decoding.phase ≠ .idle :=
  ⟨⟨rfl, rfl, rfl, rfl, by decide, ⟨_, rfl⟩, by decide, by decide, by decide⟩, ⟨rfl, _, rfl⟩, ⟨_, rfl, rfl⟩, ⟨_, rfl⟩,
    by decide⟩

/-- One presented operation from reset, at the least widths. -/
theorem witness_EveryRunMakesALegalHistory :
    (⟨2, 1⟩ : Widths).legal = true ∧ ∃ t, Sys2Proof.core.run 1 { State.resetAt ⟨2, 1⟩ with
      presented := [encode ⟨2, 1⟩ (.init 1)], configureAnswers := [.ok], captureAnswers := [] } = .next t :=
  ⟨by decide, _, rfl⟩

end Sys2Proof.Tests
end

section
/-! PROOFS. The pulse codec (40_pulse_codec.md): what each bit of a byte and each pulse of a group become. -/

namespace Sys2Proof

/-! ### Bits and pulses -/

/-- STOP differs in its durations from both pulses that carry a bit (40 R130). -/
theorem bitToPulse_ne_stop (b : Bool) : bitToPulse b ≠ Pulse.stop := by
  cases b <;> decide

/-- The comparison of 40 R135. -/
theorem pulseToBit_eq_true_iff (p : Pulse) : pulseToBit p = true ↔ p.loDur < p.hiDur :=
  decide_eq_true_iff

/-- The other side of 40 R135: a low duration that is not smaller, a tie included, reads 0. -/
theorem pulseToBit_eq_false_iff (p : Pulse) : pulseToBit p = false ↔ p.hiDur ≤ p.loDur :=
  decide_eq_false_iff_not.trans Nat.not_lt

/-- A pulse comes back from its bit exactly when it is one of the two that bitToPulse gives. -/
theorem bitToPulse_pulseToBit_eq_iff (p : Pulse) :
    bitToPulse (pulseToBit p) = p ↔ p = Pulse.zero ∨ p = Pulse.one := by
  constructor
  · intro h
    rw [← h]
    cases pulseToBit p
    · exact .inl rfl
    · exact .inr rfl
  · rintro (rfl | rfl) <;> rfl

/-! ### Groups of eight -/

/-- Two groups of eight are the same exactly when they agree at every position. -/
theorem Eight.eq_iff_get {α : Type} {g h : Eight α} : g = h ↔ ∀ j, g.get j = h.get j :=
  ⟨fun e _ => e ▸ rfl, Eight.ext_get⟩

/-- Bit 7 - j is the j-th bit from the most significant. -/
theorem Byte.getLsbD_seven_sub (a : Byte) (j : Fin 8) : a.getLsbD (7 - j.val) = a.getMsbD j.val := by
  simp [BitVec.getMsbD_eq_getLsbD]

/-- Two bytes that agree at bit 7 - j for every position j are the same. -/
theorem Byte.ext_getLsbD_seven_sub {a b : Byte}
    (h : ∀ j : Fin 8, a.getLsbD (7 - j.val) = b.getLsbD (7 - j.val)) : a = b :=
  BitVec.eq_of_getMsbD_eq fun i hi => by
    have hj := h ⟨i, hi⟩
    rwa [Byte.getLsbD_seven_sub, Byte.getLsbD_seven_sub] at hj

/-! ### The two operations, position by position -/

/-- Pulse j of encodeByte (40 R131). -/
@[simp] theorem get_encodeByte (value : Byte) (j : Fin 8) :
    (encodeByte value).get j = bitToPulse (value.getLsbD (7 - j.val)) :=
  Eight.get_ofFn _ j

/-- decodeByte reads the group's sequence of bits, the first in time as the most significant. -/
theorem decodeByte_eq_ofBoolListBE (g : PulseGroup) :
    decodeByte g = BitVec.ofBoolListBE (g.toList.map pulseToBit) := rfl

/-- Bit 7 - j of decodeByte (40 R136). -/
@[simp] theorem getLsbD_decodeByte (g : PulseGroup) (j : Fin 8) :
    (decodeByte g).getLsbD (7 - j.val) = pulseToBit (g.get j) := by
  have hbit : (g.toList.map pulseToBit)[j.val]? = some (pulseToBit (g.get j)) := by
    rw [List.getElem?_map, Eight.toList_getElem?, Option.map_some]
  calc (decodeByte g).getLsbD (7 - j.val)
      = (decodeByte g).getMsbD j.val := Byte.getLsbD_seven_sub _ j
    _ = (g.toList.map pulseToBit).getD j.val false := BitVec.getMsbD_ofBoolListBE
    _ = pulseToBit (g.get j) := by rw [List.getD_eq_getElem?_getD, hbit, Option.getD_some]

/-- The most significant bit of a sequence of bits weighs 2 to the number of bits after it. -/
theorem toNat_ofBoolListBE_cons (b : Bool) (bs : List Bool) :
    (BitVec.ofBoolListBE (b :: bs)).toNat = b.toNat * 2 ^ bs.length + (BitVec.ofBoolListBE bs).toNat := by
  rw [BitVec.ofBoolListBE, BitVec.toNat_cons', Nat.shiftLeft_eq]

/-- decodeByte accumulates the bits with the weights 2^7 down to 2^0 (40 R136): once the bits are peeled
off one at a time, the two sums are the same eight terms. -/
theorem toNat_decodeByte (g : PulseGroup) :
    (decodeByte g).toNat =
      ((List.finRange 8).map fun j => (pulseToBit (g.get j)).toNat * 2 ^ (7 - j.val)).sum := by
  simp only [decodeByte, toNat_ofBoolListBE_cons]
  rfl

/-! ### The round trip -/

/-- Decoding what was encoded gives the byte back, bit by bit. -/
@[simp] theorem decodeByte_encodeByte (b : Byte) : decodeByte (encodeByte b) = b :=
  Byte.ext_getLsbD_seven_sub fun j => by
    rw [getLsbD_decodeByte, get_encodeByte, pulseToBit_bitToPulse]

/-- Encoding what was decoded gives a group back exactly when every pulse of it comes back from its bit. -/
theorem encodeByte_decodeByte_eq_iff (g : PulseGroup) :
    encodeByte (decodeByte g) = g ↔ ∀ j : Fin 8, g.get j = Pulse.zero ∨ g.get j = Pulse.one := by
  simp only [Eight.eq_iff_get, get_encodeByte, getLsbD_decodeByte, bitToPulse_pulseToBit_eq_iff]

/-! ### The obligations -/

/-- Settles O5: the fields of ONE and ZERO by the literals, and no bit gives STOP. -/
theorem bitToPulseIsOneOrZeroNeverStop : Obligations.BitToPulseIsOneOrZeroNeverStop :=
  ⟨rfl, rfl, bitToPulse_ne_stop⟩

/-- Settles O6: the comparison that `pulseToBit_eq_true_iff` states. -/
theorem pulseToBitIsStrictlyLess : Obligations.PulseToBitIsStrictlyLess :=
  pulseToBit_eq_true_iff

/-- Settles O7: equal durations are a low duration that is not smaller, and STOP and (0, 0) are ties. -/
theorem tieReadsZero : Obligations.TieReadsZero := by
  have tie (p : Pulse) (h : p.loDur = p.hiDur) : pulseToBit p = false :=
    (pulseToBit_eq_false_iff p).mpr h.ge
  exact ⟨tie, tie Pulse.stop rfl, fun _ _ => tie _ rfl⟩

/-- Settles O8: position j by `get_encodeByte`, the three corner bytes by evaluation. -/
theorem encodeByteIsMostSignificantBitFirst : Obligations.EncodeByteIsMostSignificantBitFirst := by
  refine ⟨fun value => ⟨Eight.length_toList _, fun j => ⟨get_encodeByte value j, ?_⟩⟩,
    by decide, by decide, by decide, fun _ _ => rfl⟩
  rw [get_encodeByte]
  exact bitToPulse_ne_stop _

/-- Settles O11: bit 7 - j by `getLsbD_decodeByte`, the sum by `toNat_decodeByte`, the worked example by evaluation. -/
theorem decodeByteComparesDurations : Obligations.DecodeByteComparesDurations :=
  ⟨fun g => ⟨getLsbD_decodeByte g, toNat_decodeByte g⟩, by decide, fun _ _ => rfl⟩

/-- Settles O16: bit by bit for the byte, pulse by pulse for the group. -/
theorem decodeOfEncodeByteRoundTrip : Obligations.DecodeOfEncodeByteRoundTrip :=
  ⟨decodeByte_encodeByte, encodeByte_decodeByte_eq_iff⟩

end Sys2Proof
end

section
/-! PROOFS. The builder, the classifier and the slicer (41_frame_builder_classifier.md): where each byte of a command
stands in its train, which counts each class takes, and which pulses each decoded byte comes from. -/

namespace Sys2Proof

/-! ### The builder -/

/-- The train of a command starts with the pulses of its first byte; the train of the rest follows (41 R150). -/
theorem buildTrain_cons (b : Byte) (command : List Byte) :
    buildTrain (b :: command) = (encodeByte b).toList ++ buildTrain command := by
  simp only [buildTrain, List.flatMap_cons, List.append_assoc]

/-- Pulse j of byte i stands at position 8i + j (41 R150). -/
theorem getElem?_buildTrain (command : List Byte) (i : Nat) (b : Byte) (j : Fin 8) (h : command[i]? = some b) :
    (buildTrain command)[8 * i + j.val]? = some ((encodeByte b).get j) := by
  induction command generalizing i with
  | nil => simp at h
  | cons a command ih =>
    rw [buildTrain_cons]
    cases i with
    | zero =>
      obtain rfl : a = b := by simpa using h
      rw [Nat.mul_zero, Nat.zero_add, List.getElem?_append_left j.isLt, Eight.toList_getElem?]
    | succ i =>
      have hpos : 8 * (i + 1) + j.val = (encodeByte a).toList.length + (8 * i + j.val) := by
        rw [Eight.length_toList]; omega
      rw [hpos, List.getElem?_append_right (Nat.le_add_right _ _), Nat.add_sub_cancel_left]
      exact ih i h

/-- The last pulse of a train, at position 8N, is STOP (41 R150). -/
theorem getElem?_buildTrain_stop (command : List Byte) :
    (buildTrain command)[8 * command.length]? = some Pulse.stop :=
  calc (buildTrain command)[8 * command.length]?
      = (buildTrain command).getLast? := by rw [List.getLast?_eq_getElem?, Machine.length_buildTrain, Nat.add_sub_cancel]
    _ = some Pulse.stop := List.getLast?_concat

/-! ### The classifier -/

/-- What the classifier can answer, each class with the counts it takes (41 R154). -/
theorem classify_cases (count : Nat) :
    (count = 9 ∧ classify count = .r1) ∨ (count = 25 ∧ classify count = .r3) ∨ (90 ≤ count ∧ classify count = .r8) ∨
    ((count ≠ 9 ∧ count ≠ 25 ∧ count < 90) ∧ classify count = .unrecognized) := by
  unfold classify
  split
  case isTrue h9 => exact .inl ⟨h9, rfl⟩
  case isFalse h9 =>
    split
    case isTrue h25 => exact .inr (.inl ⟨h25, rfl⟩)
    case isFalse h25 =>
      split
      case isTrue h90 => exact .inr (.inr (.inl ⟨h90, rfl⟩))
      case isFalse h90 => exact .inr (.inr (.inr ⟨⟨h9, h25, Nat.lt_of_not_le h90⟩, rfl⟩))

/-! ### The slicer -/

/-- A range of eight pulses inside a train is read as the byte of those pulses (41 R157). -/
theorem readByte_eq_decodeByte (P : List Pulse) (start : Nat) (h : start + 8 ≤ P.length) :
    ∃ g : PulseGroup, g.toList = (P.drop start).take 8 ∧ readByte P start = some (decodeByte g) := by
  have hlen : ((P.drop start).take 8).length = 8 := by rw [List.length_take, List.length_drop]; omega
  obtain ⟨g, hg⟩ := Eight.ofList?_of_length hlen
  have hread : Machine.seqRead P start Config.literals.bits = some ((P.drop start).take 8) := if_pos h
  exact ⟨g, (Eight.ofList?_eq_some hg).symm, by rw [readByte, hread, Option.bind_some, hg, Option.map_some]⟩

/-- As many bytes are decoded as RLEN says (41 R157). -/
theorem decodeFrame_length (P : List Pulse) : (decodeFrame P).2.length = (decodeFrame P).1 := by
  obtain ⟨hrlen, hbytes⟩ := decodeFrame_eq P
  rw [hrlen, readBytes_length P _ _ _ hbytes]

/-- A frame of a class: RLEN bytes, byte k decoded from the pulses [BASE + 8k .. BASE + 8k + 8) (41 R156, R157). -/
theorem decodeFrame_of_classify {P : List Pulse} {c : FrameClass} (hc : classify P.length = c) :
    (decodeFrame P).1 = c.rlen ∧
    ∀ k, k < c.rlen → ∃ g : PulseGroup, g.toList = (P.drop (c.base + 8 * k)).take 8 ∧
      (decodeFrame P).2[k]? = some (decodeByte g) := by
  subst hc
  obtain ⟨hrlen, hbytes⟩ := decodeFrame_eq P
  refine ⟨hrlen, fun k hk => ?_⟩
  have hin : (classify P.length).base + 8 * k + 8 ≤ P.length := by
    have := FrameClass.within P.length
    omega
  rw [readBytes_getElem? P _ _ _ hbytes k hk]
  exact readByte_eq_decodeByte P _ hin

/-- A train of no class gives no bytes (41 R156). -/
theorem decodeFrame_of_unrecognized {P : List Pulse} (hc : classify P.length = .unrecognized) :
    decodeFrame P = (0, []) := by
  have hrlen : (decodeFrame P).1 = 0 := (decodeFrame_of_classify hc).1
  have hbytes : (decodeFrame P).2 = [] := List.eq_nil_of_length_eq_zero ((decodeFrame_length P).trans hrlen)
  exact Prod.ext hrlen hbytes

/-! ### The obligations -/

/-- Settles O19: positions 8i + j and 8N by the two laws of a train's elements. -/
theorem buildTrainElements : Obligations.BuildTrainElements := by
  refine fun command => ⟨Machine.length_buildTrain command, fun i b j h => ?_, getElem?_buildTrain_stop command⟩
  rw [getElem?_buildTrain command i b j h, get_encodeByte]

/-- Settles O21: the four answers of `classify_cases`, whose counts exclude each other. -/
theorem classifyByCountAlone : Obligations.ClassifyByCountAlone := by
  intro count
  obtain ⟨hn, hc⟩ | ⟨hn, hc⟩ | ⟨hn, hc⟩ | ⟨hn, hc⟩ := classify_cases count <;>
    simp only [hc, reduceCtorEq, true_iff, false_iff] <;> omega

/-- Settles O22: each count has its class by O21, and each class its bytes by `decodeFrame_of_classify`. -/
theorem decodeFrameSlices : Obligations.DecodeFrameSlices := by
  intro P
  obtain ⟨r1_iff, r3_iff, r8_iff, unrecognized_iff⟩ := classifyByCountAlone P.length
  refine ⟨decodeFrame?_length P, decodeFrame_length P, fun h9 => ?_, fun h25 => ?_, fun h90 => ?_,
    fun h9 h25 h90 => decodeFrame_of_unrecognized (unrecognized_iff.mpr ⟨h9, h25, h90⟩)⟩
  · simpa only [FrameClass.rlen, FrameClass.base, Nat.zero_add] using decodeFrame_of_classify (r1_iff.mpr h9)
  · simpa only [FrameClass.rlen, FrameClass.base, Nat.zero_add] using decodeFrame_of_classify (r3_iff.mpr h25)
  · exact decodeFrame_of_classify (r8_iff.mpr h90)

end Sys2Proof
end

section
/-! PROOFS. The transitions of the transceiver's state machine (42_transceiver.md): what each PHASE does to the state it is
entered with. -/

namespace Sys2Proof.Machine

/-! ### The two ways a receive comes to its report -/

/-- TIMEOUT leaves an empty report (42 R182). -/
theorem advance_of_timeout {s : State} (hphase : s.phase = .timeout) :
    advance s = .next ((emptyReport s).goTo .done) := by
  simp only [advance, hphase, advanceTimeout]

/-- DECODING of any state whose count is that of its train: the decoded report is written and the train released
(42 R183). The flag CAPHELD is not read. -/
theorem advance_of_decoding {s : State} {h : Handle} (hphase : s.phase = .decoding)
    (hcount : s.capcnt = some s.rx.length) (hcaph : s.caph = some h) :
    advance s = .next ((releaseTrain h (writeReport (decodeFrame s.rx) s)).goTo .done) := by
  simp only [advance, hphase, advanceDecoding, hcount, hcaph, withValue, decodeFrame?_length]

/-- A buffer after a decoded frame was written from index 0 on: the frame's bytes, and above them what was there. -/
theorem read_memWrite_decodeFrame (m : Memory Byte) (P : List Pulse) (k : Nat) :
    (memWrite m 0 (decodeFrame P).2).read k =
      if k < (decodeFrame P).1 then (decodeFrame P).2[k]? else m.read k := by
  rw [read_memWrite, decodeFrame_length]
  simp only [Nat.zero_le, true_and, Nat.zero_add, Nat.sub_zero]

/-- The frame of a train of no class writes an empty report. -/
theorem writeReport_of_unrecognized {P : List Pulse} (hclass : classify P.length = .unrecognized) (s : State) :
    writeReport (decodeFrame P) s = emptyReport s := by
  rw [decodeFrame_of_unrecognized hclass]
  rfl

end Sys2Proof.Machine

namespace Sys2Proof

open Machine

/-! ### The obligations -/

/-- Settles O41: the empty report of `advance_of_timeout` changes RLEN alone. -/
theorem timeoutTransition : Obligations.TimeoutTransition :=
  fun _ hphase => advance_of_timeout hphase

/-- Settles O42: the state that `advance_of_decoding` gives, RPT read by `read_memWrite_decodeFrame`; a train of no class
has its empty report by `writeReport_of_unrecognized`. -/
theorem decodingTransition : Obligations.DecodingTransition := by
  intro s h hphase hcount hcaph
  refine ⟨_, advance_of_decoding hphase hcount hcaph, fun k => ?_, fun h9 h25 h90 => ?_, rfl⟩
  · exact read_memWrite_decodeFrame s.rpt s.rx k
  · obtain ⟨-, -, -, unrecognized_iff⟩ := classifyByCountAlone s.rx.length
    rw [writeReport_of_unrecognized (unrecognized_iff.mpr ⟨h9, h25, h90⟩)]
    exact ⟨rfl, rfl⟩

end Sys2Proof
end

section
/-! PROOFS. The pulse word at every width (30_encoding.md section 1), and the decoder against the encoder (30_encoding.md
section 5). -/

namespace Sys2Proof

/-! ### The pulse word -/

/-- The word of a pulse as a number in mixed radix: a duration, a level, a duration, a level (30 R101). -/
theorem toWord_eq_mixedRadix (w : Nat) (p : Pulse) :
    p.toWord w = p.loDur + 2 ^ w * (p.loLvl.toNat + 2 * (p.hiDur + 2 ^ w * p.hiLvl.toNat)) := by
  simp only [Pulse.toWord]
  ring

/-- The number of words, as the product of the four radices. -/
theorem two_pow_wordBits (w : Nat) : 2 ^ (2 * w + 2) = 2 ^ w * (2 * (2 ^ w * 2)) := by ring

/-- The high duration starts above the low level. -/
theorem div_two_pow_succ (x w : Nat) : x / 2 ^ (w + 1) = x / 2 ^ w / 2 := by
  rw [pow_succ, Nat.div_div_eq_div_mul]

/-- The high level stands above the high duration. -/
theorem div_two_pow_two_mul_succ (x w : Nat) : x / 2 ^ (2 * w + 1) = x / 2 ^ w / 2 / 2 ^ w := by
  rw [Nat.div_div_eq_div_mul, Nat.div_div_eq_div_mul]
  congr 1
  ring

/-- A bit taken as a number and back is the bit. -/
theorem decide_toNat_mod_two (b : Bool) : decide (b.toNat % 2 = 1) = b := by
  cases b <;> rfl

/-- A word of fields that fit has 2w + 2 bits. -/
theorem toWord_lt {w : Nat} {p : Pulse} (h : p.fits w = true) : p.toWord w < 2 ^ (2 * w + 2) := by
  obtain ⟨hlo, hhi⟩ : p.loDur < 2 ^ w ∧ p.hiDur < 2 ^ w := by simpa [Pulse.fits] using h
  rw [toWord_eq_mixedRadix, two_pow_wordBits]
  exact Nat.add_mul_lt_mul_of_lt_of_lt hlo
    (Nat.add_mul_lt_mul_of_lt_of_lt p.loLvl.toNat_lt (Nat.add_mul_lt_mul_of_lt_of_lt hhi p.hiLvl.toNat_lt))

/-- Reading the fields of the word of a pulse that fits gives the pulse back: each division takes one digit off. -/
theorem ofWord_toWord {w : Nat} {p : Pulse} (h : p.fits w = true) : Pulse.ofWord w (p.toWord w) = p := by
  obtain ⟨hlo, hhi⟩ : p.loDur < 2 ^ w ∧ p.hiDur < 2 ^ w := by simpa [Pulse.fits] using h
  have hpow : 0 < 2 ^ w := Nat.two_pow_pos w
  have digit_radix (d q : Nat) (hd : d < 2 ^ w) : (d + 2 ^ w * q) / 2 ^ w = q := by
    rw [Nat.add_mul_div_left _ _ hpow, Nat.div_eq_of_lt hd, Nat.zero_add]
  have digit_two (b : Bool) (q : Nat) : (b.toNat + 2 * q) / 2 = q := by
    rw [Nat.add_mul_div_left _ _ Nat.two_pos, Nat.div_eq_of_lt b.toNat_lt, Nat.zero_add]
  simp only [Pulse.ofWord, Nat.testBit_eq_decide_div_mod_eq]
  rw [div_two_pow_two_mul_succ, div_two_pow_succ, toWord_eq_mixedRadix]
  simp only [digit_radix, hlo, hhi, digit_two, Nat.add_mul_mod_self_left, Nat.mod_eq_of_lt, decide_toNat_mod_two]

/-- Building the word of the fields of any number gives the number's low 2w + 2 bits: the remainder of a product is taken
digit by digit. -/
theorem toWord_ofWord (w x : Nat) : (Pulse.ofWord w x).toWord w = x % 2 ^ (2 * w + 2) := by
  rw [two_pow_wordBits, Nat.mod_mul, Nat.mod_mul, Nat.mod_mul, toWord_eq_mixedRadix]
  simp only [Pulse.ofWord, Nat.toNat_testBit]
  rw [div_two_pow_two_mul_succ, div_two_pow_succ]

/-- The canonical pulses fit every legal duration width. -/
theorem fits_canonical {w : Nat} (hw : 2 ≤ w) {p : Pulse} (hp : p = Pulse.zero ∨ p = Pulse.one ∨ p = Pulse.stop) :
    p.fits w = true := by
  obtain rfl | rfl | rfl := hp
  · exact fits_bitToPulse hw false
  · exact fits_bitToPulse hw true
  · exact fits_stop hw

/-- The low bits of a word are those of its pulse's word. -/
theorem toWord_mod (w x : Nat) : (Pulse.ofWord w x).toWord w % 2 ^ (2 * w + 2) = x % 2 ^ (2 * w + 2) := by
  rw [toWord_ofWord, Nat.mod_mod]

/-! ### Operands on their ports -/

/-- The widths that the spec admits hold the canonical pulses. -/
theorem Widths.two_le_durW {W : Widths} (hW : W.legal = true) : 2 ≤ W.durW := by
  simp only [Widths.legal, Bool.and_eq_true, decide_eq_true_eq] at hW
  exact hW.1

/-- A group fits exactly when each of its pulses does. -/
theorem Eight.fits_iff {w : Nat} {g : PulseGroup} : g.fits w = true ↔ ∀ j, (g.get j).fits w = true := by
  constructor
  · intro h j
    simp only [Eight.fits, Bool.and_eq_true] at h
    obtain ⟨⟨⟨⟨⟨⟨⟨h0, h1⟩, h2⟩, h3⟩, h4⟩, h5⟩, h6⟩, h7⟩ := h
    fin_cases j <;> assumption
  · intro h
    simp only [Eight.fits, Bool.and_eq_true]
    exact ⟨⟨⟨⟨⟨⟨⟨h 0, h 1⟩, h 2⟩, h 3⟩, h 4⟩, h 5⟩, h 6⟩, h 7⟩

@[simp] theorem Eight.get_map {α β : Type} (f : α → β) (g : Eight α) (j : Fin 8) : (g.map f).get j = f (g.get j) := by
  fin_cases j <;> rfl

/-- What eight words are read as fits the ports. -/
theorem fits_map_ofWord (w : Nat) (words : Eight Nat) : (words.map (Pulse.ofWord w)).fits w = true :=
  Eight.fits_iff.mpr fun j => by rw [Eight.get_map]; exact fits_ofWord w _

/-- A group comes back from its eight words exactly when it fits the ports. -/
theorem map_ofWord_map_toWord_eq_iff {w : Nat} {g : PulseGroup} :
    (g.map (Pulse.toWord w)).map (Pulse.ofWord w) = g ↔ g.fits w = true := by
  constructor
  · intro h
    rw [← h]
    exact fits_map_ofWord w _
  · intro h
    refine Eight.ext_get fun j => ?_
    rw [Eight.get_map, Eight.get_map]
    exact ofWord_toWord (Eight.fits_iff.mp h j)

/-- A pin comes through its port unchanged exactly when it has the port's bits. -/
theorem pin_mod_eq_iff {w : Nat} {pin : Pin} : pin % 2 ^ w = pin ↔ Pin.fits w pin = true := by
  rw [Pin.fits, decide_eq_true_eq, Nat.mod_eq_iff_lt (Nat.two_pow_pos w).ne']

/-- What a pin port carries has the port's bits. -/
theorem fits_pin_mod (w pin : Nat) : Pin.fits w (pin % 2 ^ w) = true :=
  decide_eq_true (Nat.mod_lt _ (Nat.two_pow_pos w))

/-! ### The decoder -/

/-- The four answers of `decodePulse`, one for each row of 30 R102 and one for any other pulse. -/
theorem decodePulse_cases (slot : Fin 8) (p : Pulse) :
    (p = Pulse.zero ∧ decodePulse slot p = .instr (.zero slot)) ∨
    (p = Pulse.one ∧ decodePulse slot p = .instr (.one slot)) ∨
    (p = Pulse.stop ∧ decodePulse slot p = .instr (.stop slot)) ∨
    ((p ≠ Pulse.zero ∧ p ≠ Pulse.one ∧ p ≠ Pulse.stop) ∧ decodePulse slot p = .pulse slot p) := by
  unfold decodePulse
  split
  case isTrue h => exact .inl ⟨h, rfl⟩
  case isFalse hzero =>
    split
    case isTrue h => exact .inr (.inl ⟨h, rfl⟩)
    case isFalse hone =>
      split
      case isTrue h => exact .inr (.inr (.inl ⟨h, rfl⟩))
      case isFalse hstop => exact .inr (.inr (.inr ⟨⟨hzero, hone, hstop⟩, rfl⟩))

/-- A pulse word of a row of 30 R102 decodes to what its pulse does. -/
theorem decode_pulseWord_canonical {W : Widths} (hW : W.legal = true) (slot : Fin 8) {p : Pulse}
    (hp : p = Pulse.zero ∨ p = Pulse.one ∨ p = Pulse.stop) :
    decode W (.pulseWord slot (p.toWord W.durW)) = decodePulse slot p := by
  rw [decode, ofWord_toWord (fits_canonical (Widths.two_le_durW hW) hp)]

/-- Decoding what the encoder puts on the ports gives back exactly the instructions whose operands the ports carry. -/
theorem decode_encode_eq_iff {W : Widths} (hW : W.legal = true) (i : Instr) :
    decode W (encode W i) = .instr i ↔ i.wf W = true := by
  cases i with
  | enc value => exact iff_of_true rfl rfl
  | dec pulses =>
    change Decoded.instr (.dec _) = _ ↔ _
    rw [Decoded.instr.injEq, Instr.dec.injEq, map_ofWord_map_toWord_eq_iff, Instr.wf]
  | init pin =>
    change Decoded.instr (.init _) = _ ↔ _
    rw [Decoded.instr.injEq, Instr.init.injEq, pin_mod_eq_iff, Instr.wf]
  | send pin n command =>
    change Decoded.instr (.send _ _ _) = _ ↔ _
    rw [Decoded.instr.injEq, Instr.send.injEq, pin_mod_eq_iff, Instr.wf, Bool.and_eq_true, beq_iff_eq]
    simp only [and_true]
  | recv pin =>
    change Decoded.instr (.recv _) = _ ↔ _
    rw [Decoded.instr.injEq, Instr.recv.injEq, pin_mod_eq_iff, Instr.wf]
  | xfer pin n command =>
    change Decoded.instr (.xfer _ _ _) = _ ↔ _
    rw [Decoded.instr.injEq, Instr.xfer.injEq, pin_mod_eq_iff, Instr.wf, Bool.and_eq_true, beq_iff_eq]
    simp only [and_true]
  | reserved000 => exact iff_of_true rfl rfl
  | reserved111 => exact iff_of_true rfl rfl
  | zero slot => exact iff_of_true (decode_pulseWord_canonical hW slot (.inl rfl)) rfl
  | one slot => exact iff_of_true (decode_pulseWord_canonical hW slot (.inr (.inl rfl))) rfl
  | stop slot => exact iff_of_true (decode_pulseWord_canonical hW slot (.inr (.inr rfl))) rfl

/-- An operation that was read is well formed: the decoder takes the ports' bits and counts the command's bytes. -/
theorem wf_decodeOperation (W : Widths) (p : PortWords) : (decodeOperation W p).wf W = true := by
  unfold decodeOperation
  split <;> simp [Instr.wf, fits_map_ofWord, fits_pin_mod]

/-- Whatever decodes to an instruction is well formed (30 R115). -/
theorem wf_of_decode {W : Widths} {p : Presented} {i : Instr} (h : decode W p = .instr i) : i.wf W = true := by
  cases p with
  | operation words =>
    obtain rfl : decodeOperation W words = i := by simpa [decode] using h
    exact wf_decodeOperation W words
  | pulseWord slot x =>
    obtain ⟨-, e⟩ | ⟨-, e⟩ | ⟨-, e⟩ | ⟨-, e⟩ := decodePulse_cases slot (Pulse.ofWord W.durW x) <;>
      rw [decode, e] at h <;> cases h <;> rfl

/-- The code of an operation that was read is the code that stood on the port. -/
theorem tableNumber_encode_decodeOperation (W : Widths) (p : PortWords) :
    (encode W (decodeOperation W p)).tableNumber W = p.op.toNat := by
  have hlt : p.op.toNat < 8 := p.op.isLt
  unfold decodeOperation
  split
  case h_8 h0 h1 h2 h3 h4 h5 h6 =>
    change 7 = p.op.toNat
    rw [imp_false] at h0 h1 h2 h3 h4 h5 h6
    omega
  all_goals
    next h => rw [h]; rfl

/-- Whatever decodes to an instruction carries the number that the instruction's encoding carries (30 R114, R102). -/
theorem tableNumber_of_decode {W : Widths} {p : Presented} {i : Instr} (h : decode W p = .instr i) :
    p.tableNumber W = (encode W i).tableNumber W := by
  cases p with
  | operation words =>
    obtain rfl : decodeOperation W words = i := by simpa [decode] using h
    exact (tableNumber_encode_decodeOperation W words).symm
  | pulseWord slot x =>
    have hword := (toWord_mod W.durW x).symm
    obtain ⟨hp, e⟩ | ⟨hp, e⟩ | ⟨hp, e⟩ | ⟨-, e⟩ := decodePulse_cases slot (Pulse.ofWord W.durW x) <;>
      rw [decode, e] at h <;> cases h <;> rw [hp] at hword <;> exact hword

/-- What decodes to no instruction is a pulse word of no row, on its wire (30 R111). -/
theorem decode_eq_pulse {W : Widths} {p : Presented} {slot : Fin 8} {q : Pulse} (h : decode W p = .pulse slot q) :
    (∃ x, p = .pulseWord slot x ∧ q = Pulse.ofWord W.durW x) ∧ q ≠ Pulse.zero ∧ q ≠ Pulse.one ∧ q ≠ Pulse.stop := by
  cases p with
  | operation words => simp [decode] at h
  | pulseWord wire x =>
    obtain ⟨-, e⟩ | ⟨-, e⟩ | ⟨-, e⟩ | ⟨hne, e⟩ := decodePulse_cases wire (Pulse.ofWord W.durW x) <;>
      rw [decode, e] at h <;> cases h
    exact ⟨⟨x, rfl, rfl⟩, hne⟩

/-- The table's rows, one lemma per constructor of Instr put together. -/
theorem tableNumber_encode_table (i : Instr) : (encode Widths.table i).tableNumber Widths.table = i.tableMatch := by
  cases i with
  | enc value => exact Laws.EncodedTableRow.enc value
  | dec pulses => exact Laws.EncodedTableRow.dec pulses
  | init pin => exact Laws.EncodedTableRow.init pin
  | send pin n command => exact Laws.EncodedTableRow.send pin n command
  | recv pin => exact Laws.EncodedTableRow.recv pin
  | xfer pin n command => exact Laws.EncodedTableRow.xfer pin n command
  | reserved000 => exact Laws.EncodedTableRow.reserved000
  | reserved111 => exact Laws.EncodedTableRow.reserved111
  | zero slot => exact Laws.EncodedTableRow.zero slot
  | one slot => exact Laws.EncodedTableRow.one slot
  | stop slot => exact Laws.EncodedTableRow.stop slot

/-! ### The obligations -/

/-- Settles O4: both directions by `decode_encode_eq_iff`, since whatever decodes is well formed. -/
theorem decodeAndEncodeAgree : Obligations.DecodeAndEncodeAgree := by
  refine ⟨fun W hW => ⟨decode_encode_eq_iff hW, fun p i h => ?_, fun p slot q h => decode_eq_pulse h⟩,
    tableNumber_encode_table⟩
  exact ⟨wf_of_decode h, tableNumber_of_decode h, (decode_encode_eq_iff hW i).mpr (wf_of_decode h)⟩

/-- Settles O2: the formula is the word's definition, and the word is a number in mixed radix. -/
theorem pulseWordLayoutAtEveryWidth : Obligations.PulseWordLayoutAtEveryWidth :=
  fun w => ⟨fun _ => rfl, fun _ h => ⟨toWord_lt h, ofWord_toWord h⟩, fun x => ⟨fits_ofWord w x, toWord_ofWord w x⟩⟩

/-- Settles O1: the fields and the words by evaluation at the table's width. -/
theorem canonicalPulseFieldsAndWords : Obligations.CanonicalPulseFieldsAndWords :=
  ⟨rfl, rfl, rfl, rfl, rfl, rfl⟩

/-- Settles O3: the eleven words of the table by evaluation. -/
theorem tableWordsDecodeToTheirRows : Obligations.TableWordsDecodeToTheirRows := by
  unfold Obligations.TableWordsDecodeToTheirRows
  decide

end Sys2Proof
end

section
/-! PROOFS. What the codec's results depend on (40_pulse_codec.md), what a built train consists of and which pulses a
report reads (41_frame_builder_classifier.md). -/

namespace Sys2Proof

/-! ### The codec -/

/-- bitToPulse gives one of its two pulses. -/
theorem bitToPulse_eq_zero_or_one (b : Bool) : bitToPulse b = Pulse.zero ∨ bitToPulse b = Pulse.one :=
  (bitToPulse_pulseToBit_eq_iff _).mp (congrArg bitToPulse (pulseToBit_bitToPulse b))

/-- Different bits have different pulses, since the decoder tells them apart. -/
theorem bitToPulse_inj {a b : Bool} : bitToPulse a = bitToPulse b ↔ a = b := by
  refine ⟨fun h => ?_, congrArg bitToPulse⟩
  rw [← pulseToBit_bitToPulse a, h, pulseToBit_bitToPulse]

/-- The results of ENC fit every legal duration width. -/
theorem fits_encodeByte {w : Nat} (hw : 2 ≤ w) (value : Byte) : (encodeByte value).fits w = true :=
  Eight.fits_iff.mpr fun j => by rw [get_encodeByte]; exact fits_bitToPulse hw _

/-- Two pulses have the same bit exactly when the same duration is the smaller one (40 R135). -/
theorem pulseToBit_eq_iff {p q : Pulse} : pulseToBit p = pulseToBit q ↔ (p.loDur < p.hiDur ↔ q.loDur < q.hiDur) := by
  rw [Bool.eq_iff_iff, pulseToBit_eq_true_iff, pulseToBit_eq_true_iff]

/-- Two groups decode to the same byte exactly when they have the same bit at every position. -/
theorem decodeByte_eq_iff {g h : PulseGroup} :
    decodeByte g = decodeByte h ↔ ∀ j, pulseToBit (g.get j) = pulseToBit (h.get j) := by
  constructor
  · intro e j
    rw [← getLsbD_decodeByte, e, getLsbD_decodeByte]
  · intro e
    exact Byte.ext_getLsbD_seven_sub fun j => by rw [getLsbD_decodeByte, getLsbD_decodeByte, e]

/-- A sequence of another length than eight is no group (40 R139). -/
theorem Eight.ofList?_of_length_ne {α : Type} {l : List α} (h : l.length ≠ 8) : Eight.ofList? l = none := by
  cases hl : Eight.ofList? l with
  | none => rfl
  | some g => exact absurd (by rw [Eight.ofList?_eq_some hl, Eight.length_toList]) h

/-! ### The builder -/

/-- Before its end a train holds the pulses of its command's bits. -/
theorem getElem?_buildTrain_of_lt {command : List Byte} {k : Nat} (hk : k < 8 * command.length) :
    ∃ b, (buildTrain command)[k]? = some (bitToPulse b) := by
  have hbyte : k / 8 < command.length := by omega
  have h := getElem?_buildTrain command (k / 8) command[k / 8] ⟨k % 8, Nat.mod_lt _ (by decide)⟩
    (List.getElem?_eq_getElem hbyte)
  rw [Nat.div_add_mod, get_encodeByte] at h
  exact ⟨_, h⟩

/-- The two kinds of positions of a train: a bit's pulse before the end, STOP at the end (41 R153). -/
theorem getElem?_buildTrain_cases {command : List Byte} {k : Nat} {p : Pulse} (h : (buildTrain command)[k]? = some p) :
    (k < 8 * command.length ∧ ∃ b, p = bitToPulse b) ∨ (k = 8 * command.length ∧ p = Pulse.stop) := by
  obtain ⟨hk, -⟩ := List.getElem?_eq_some_iff.mp h
  rw [Machine.length_buildTrain] at hk
  by_cases hlt : k < 8 * command.length
  · obtain ⟨b, hb⟩ := getElem?_buildTrain_of_lt hlt
    exact .inl ⟨hlt, b, Option.some.inj (h.symm.trans hb)⟩
  · obtain rfl : k = 8 * command.length := by omega
    exact .inr ⟨rfl, Option.some.inj (h.symm.trans (getElem?_buildTrain_stop command))⟩

/-! ### The slicer -/

/-- A range of eight pulses that was read is the byte of a group that carries the train's pulses. -/
theorem readByte_eq_decodeByte_get (P : List Pulse) (start : Nat) (h : start + 8 ≤ P.length) :
    ∃ g : PulseGroup, (∀ j : Fin 8, P[start + j.val]? = some (g.get j)) ∧ readByte P start = some (decodeByte g) := by
  obtain ⟨g, hg, hread⟩ := readByte_eq_decodeByte P start h
  refine ⟨g, fun j => ?_, hread⟩
  rw [← Eight.toList_getElem?, hg, List.getElem?_take_of_lt j.isLt, List.getElem?_drop]

/-- Two ranges of the same bits are read as the same byte (41 R159). -/
theorem readByte_congr {P Q : List Pulse} {start : Nat} (hP : start + 8 ≤ P.length) (hQ : start + 8 ≤ Q.length)
    (hbits : ∀ k, start ≤ k → k < start + 8 → ∀ p q, P[k]? = some p → Q[k]? = some q → pulseToBit p = pulseToBit q) :
    readByte P start = readByte Q start := by
  obtain ⟨g, hg, hreadP⟩ := readByte_eq_decodeByte_get P start hP
  obtain ⟨h, hh, hreadQ⟩ := readByte_eq_decodeByte_get Q start hQ
  rw [hreadP, hreadQ, decodeByte_eq_iff.mpr fun j => ?_]
  exact hbits _ (Nat.le_add_right _ _) (Nat.add_lt_add_left j.isLt _) _ _ (hg j) (hh j)

/-- A range that carries the pulses of a byte is read as that byte (40 R142). -/
theorem readByte_encodeByte (pre post : List Pulse) (b : Byte) :
    readByte (pre ++ ((encodeByte b).toList ++ post)) pre.length = some b := by
  have hin : pre.length + 8 ≤ (pre ++ ((encodeByte b).toList ++ post)).length := by
    simp only [List.length_append, Eight.length_toList]
    omega
  obtain ⟨g, hg, hread⟩ := readByte_eq_decodeByte _ _ hin
  rw [List.drop_left, List.take_left' (Eight.length_toList _)] at hg
  have hgroup : g = encodeByte b := Option.some.inj (by rw [← Eight.ofList?_toList g, hg, Eight.ofList?_toList])
  rw [hread, hgroup, decodeByte_encodeByte]

/-- Consecutive ranges that carry the pulses of bytes are read as those bytes. -/
theorem readBytes_encodeByte (bytes : List Byte) (pre post : List Pulse) :
    readBytes (pre ++ bytes.flatMap (fun b => (encodeByte b).toList) ++ post) pre.length bytes.length = some bytes := by
  induction bytes generalizing pre with
  | nil => rfl
  | cons b bytes ih =>
    have hfirst := readByte_encodeByte pre (bytes.flatMap (fun b => (encodeByte b).toList) ++ post) b
    have hrest := ih (pre ++ (encodeByte b).toList)
    rw [← List.append_assoc (encodeByte b).toList, ← List.append_assoc pre] at hfirst
    rw [List.length_append, Eight.length_toList, List.append_assoc pre] at hrest
    have hbits : Config.literals.bits = 8 := rfl
    simp only [List.length_cons, List.flatMap_cons, readBytes, hfirst, hbits, hrest]

/-- The report is fixed by the class of the count and the bytes at its ranges. -/
theorem decodeFrame_eq_of_readBytes {P : List Pulse} {bytes : List Byte}
    (h : readBytes P (classify P.length).base (classify P.length).rlen = some bytes) :
    decodeFrame P = ((classify P.length).rlen, bytes) := by
  obtain ⟨hrlen, hbytes⟩ := decodeFrame_eq P
  exact Prod.ext hrlen (Option.some.inj (hbytes.symm.trans h))

/-- The bytes of a report are the bytes of its ranges. -/
theorem decodeFrame_getElem? {P : List Pulse} {k : Nat} (hk : k < (classify P.length).rlen) :
    (decodeFrame P).2[k]? = readByte P ((classify P.length).base + 8 * k) :=
  readBytes_getElem? P _ _ _ (decodeFrame_eq P).2 k hk

/-- The number of bytes of a report is that of a class (41 R156, 10 R54 e). -/
theorem decodeFrame_fst_cases (P : List Pulse) :
    (decodeFrame P).1 = 0 ∨ (decodeFrame P).1 = 1 ∨ (decodeFrame P).1 = 3 ∨ (decodeFrame P).1 = 8 := by
  rw [(decodeFrame_eq P).1]
  cases classify P.length <;> decide

/-! ### The obligations -/

/-- Settles O9: position by position, each the pulse of one bit. -/
theorem encodeByteIsInjectiveIntoZeroAndOne : Obligations.EncodeByteIsInjectiveIntoZeroAndOne := by
  refine ⟨fun value j => ?_, fun w value hw => fits_encodeByte hw value, fun a b h => ?_⟩
  · rw [get_encodeByte]
    exact bitToPulse_eq_zero_or_one _
  · rw [← decodeByte_encodeByte a, h, decodeByte_encodeByte]

/-- Settles O10: position j is the pulse of bit 7 - j, and bitToPulse is injective. -/
theorem encodePositionsAreIndependent : Obligations.EncodePositionsAreIndependent := by
  intro a b j
  rw [get_encodeByte, get_encodeByte, bitToPulse_inj]

/-- Settles O14: bit by bit, each the comparison of two durations. -/
theorem decodeByteSeesOnlyWhichDurationIsSmaller : Obligations.DecodeByteSeesOnlyWhichDurationIsSmaller := by
  intro g h
  simp only [decodeByte_eq_iff, pulseToBit_eq_iff]

/-- Settles O15: eight pulses are the group of that sequence, any other number is none. -/
theorem onlyEightPulsesAreAnOperand : Obligations.OnlyEightPulsesAreAnOperand := by
  refine fun l => ⟨fun h => ?_, Eight.ofList?_of_length_ne⟩
  obtain ⟨g, hg⟩ := Eight.ofList?_of_length h
  exact ⟨g, hg, (Eight.ofList?_eq_some hg).symm⟩

/-- Settles O20: a bit's pulse is ZERO or ONE and never STOP, and stands before position 8N. -/
theorem builtTrainHasOneStopAtItsEnd : Obligations.BuiltTrainHasOneStopAtItsEnd := by
  intro command k p h
  obtain ⟨hk, b, rfl⟩ | ⟨hk, rfl⟩ := getElem?_buildTrain_cases h
  · refine ⟨(bitToPulse_eq_zero_or_one b).imp_right .inl, ?_, ?_, iff_of_false (bitToPulse_ne_stop b) hk.ne⟩ <;>
      cases b <;> rfl
  · exact ⟨.inr (.inr rfl), rfl, rfl, iff_of_true rfl hk⟩

/-- Settles O23: the class fixes the ranges, and each range is read alike by `readByte_congr`. -/
theorem decodeFrameIgnoresUnreadPulses : Obligations.DecodeFrameIgnoresUnreadPulses := by
  intro P Q hclass hbits
  have hinP := FrameClass.within P.length
  have hinQ := FrameClass.within Q.length
  have hrlen : (decodeFrame P).1 = (decodeFrame Q).1 := by rw [(decodeFrame_eq P).1, (decodeFrame_eq Q).1, hclass]
  refine Prod.ext hrlen (List.ext_getElem?' fun k hk => ?_)
  rw [decodeFrame_length, decodeFrame_length, ← hrlen, max_self, (decodeFrame_eq P).1] at hk
  rw [decodeFrame_getElem? hk, decodeFrame_getElem? (hclass ▸ hk), ← hclass]
  rw [← hclass] at hinQ
  refine readByte_congr (by omega) (by omega) fun i hlo hhi => hbits i (by omega) (by omega)

/-- Settles O24: the ranges carry the bytes' pulses, and a train of 1 or 3 bytes has 9 or 25 pulses. -/
theorem canonicalReportDecodesToItsBytes : Obligations.CanonicalReportDecodesToItsBytes := by
  have hcarried (pre post : List Pulse) (bytes : List Byte)
      (hbase : pre.length = (classify (pre.length + 8 * bytes.length + post.length)).base)
      (hcount : bytes.length = (classify (pre.length + 8 * bytes.length + post.length)).rlen) :
      decodeFrame (pre ++ bytes.flatMap (fun b => (encodeByte b).toList) ++ post) = (bytes.length, bytes) := by
    have hlen : (pre ++ bytes.flatMap (fun b => (encodeByte b).toList) ++ post).length =
        pre.length + 8 * bytes.length + post.length := by
      have := Machine.length_buildTrain bytes
      simp only [buildTrain, List.length_append, List.length_singleton] at this ⊢
      omega
    rw [decodeFrame_eq_of_readBytes (bytes := bytes)] <;> rw [hlen, ← hcount]
    rw [← hbase]
    exact readBytes_encodeByte bytes pre post
  refine ⟨hcarried, fun command hcommand => ?_⟩
  refine hcarried [] [Pulse.stop] command ?_ ?_ <;> obtain h | h := hcommand <;> rw [h] <;> rfl

end Sys2Proof
end

section
/-! PROOFS. The operations at the port (42_transceiver.md section 1): INIT, SEND, RECV and XFER as one shape, the checks, the
setup step, the operation's own part, the end; and the state machine against it (42_transceiver.md section 3). -/

namespace Sys2Proof.Machine

/-! ### The parts of a transceiver operation -/

/-- The operands that ACCEPT latches (42 R178). -/
def latchOperands : Instr → State → State
  | .init pin, s => latch .init pin s
  | .send pin n command, s => latchCommand n command (latch .send pin s)
  | .recv pin, s => latch .recv pin s
  | .xfer pin n command, s => latchCommand n command (latch .xfer pin s)
  | _, s => s

/-- What follows the setup step (42 R172 to R175). -/
def operationBody : Instr → State → State
  | .send pin n command, s => transmitCommand pin n command s
  | .recv pin, s => receiveReport pin s
  | .xfer pin n command, s => receiveReport pin (transmitCommand pin n command s)
  | _, s => s

/-- The first PHASE of the path (42 R179). -/
def firstPhase : Instr → Phase
  | .init _ => .done
  | .send _ _ _ => .sending
  | .recv _ => .awaitingResponse
  | .xfer _ _ _ => .sending
  | _ => .idle

/-- The check E_LEN (42 R178 check 4). -/
def overlong : Instr → Bool
  | .send _ n _ => commandTooLong n
  | .xfer _ n _ => commandTooLong n
  | _ => false

/-- A command is N bytes (30 R115). -/
def CommandIsN : Instr → Prop
  | .send _ n command => command.length = n
  | .xfer _ n command => command.length = n
  | _ => True

/-- The stop of an operation whose command is not N bytes. -/
def withInstrCommand (i : Instr) (o : Host.Outcome State Fault Refusal) : Host.Outcome State Fault Refusal :=
  match i with
  | .send _ n command => withCommand n command o
  | .xfer _ n command => withCommand n command o
  | _ => o

/-- The whole operation from the outcome of the setup step on. -/
def finishOperation (i : Instr) : Ran → State
  | .goesOn s => complete (operationBody i (latchOperands i s))
  | .raised s => takeHwConfigFailure s

/-- ACCEPT and SETUP from the outcome of the setup step on. -/
def enterPath (i : Instr) : Ran → State
  | .goesOn s => (latchOperands i s).goTo (firstPhase i)
  | .raised s => takeHwConfigFailure s

/-- The same update of the state, however a part of an operation ended. -/
def Ran.map (f : State → State) : Ran → Ran
  | .goesOn s => .goesOn (f s)
  | .raised s => .raised (f s)

/-! ### The setup step -/

/-- The setup step does not look at what `latch` writes. -/
theorem ensureInitialized_latch (op : TransceiverOp) (opPin pin : Pin) (s : State) :
    ensureInitialized pin (latch op opPin s) = (ensureInitialized pin s).map (latch op opPin) := by
  unfold ensureInitialized drawConfigure
  rw [latch_inited, latch_configureAnswers]
  cases s.inited
  · obtain - | ⟨a, rest⟩ := s.configureAnswers
    · cases h : Config.freeConfigure s.draws <;> simp only [latch_draws, h] <;> rfl
    · cases a <;> rfl
  · rfl

/-- The setup step does not look at what `latchCommand` writes. -/
theorem ensureInitialized_latchCommand (n : Nat) (command : List Byte) (pin : Pin) (s : State) :
    ensureInitialized pin (latchCommand n command s) = (ensureInitialized pin s).map (latchCommand n command) := by
  unfold ensureInitialized drawConfigure
  rw [latchCommand_inited, latchCommand_configureAnswers]
  cases s.inited
  · obtain - | ⟨a, rest⟩ := s.configureAnswers
    · cases h : Config.freeConfigure s.draws <;> simp only [latchCommand_draws, h] <;> rfl
    · cases a <;> rfl
  · rfl

/-- So the setup step may be made before the operands are latched. -/
theorem ensureInitialized_latchOperands (i : Instr) (pin : Pin) (s : State) :
    ensureInitialized pin (latchOperands i s) = (ensureInitialized pin s).map (latchOperands i) := by
  have hsame : ensureInitialized pin s = (ensureInitialized pin s).map id := by cases ensureInitialized pin s <;> rfl
  have hcommand (op : TransceiverOp) (opPin : Pin) (n : Nat) (command : List Byte) :
      ensureInitialized pin (latchCommand n command (latch op opPin s)) =
        (ensureInitialized pin s).map (fun u => latchCommand n command (latch op opPin u)) := by
    rw [ensureInitialized_latchCommand, ensureInitialized_latch]
    cases ensureInitialized pin s <;> rfl
  cases i with
  | init opPin => exact ensureInitialized_latch .init opPin pin s
  | send opPin n command => exact hcommand .send opPin n command
  | recv opPin => exact ensureInitialized_latch .recv opPin pin s
  | xfer opPin n command => exact hcommand .xfer opPin n command
  | _ => exact hsame

/-- Where the setup step goes on, the setup is done. -/
theorem inited_of_goesOn {pin : Pin} {s u : State} (h : ensureInitialized pin s = .goesOn u) : u.inited = true := by
  obtain ⟨hi, e⟩ | ⟨-, rest, k, e⟩ | ⟨-, rest, k, e⟩ := ensureInitialized_cases pin s <;> rw [e] at h <;> cases h
  · exact hi
  · rfl

/-- The exception overwrites everything that was latched. -/
theorem takeHwConfigFailure_latchOperands (i : Instr) (s : State) :
    takeHwConfigFailure (latchOperands i s) = takeHwConfigFailure s := by
  cases i <;> rfl

/-! ### One shape for the four operations -/

/-- A busy block refuses before any other check. -/
theorem atPort_of_busy {s : State} (h : s.phase ≠ .idle) (long : Bool) (o : Host.Outcome State Fault Refusal) :
    atPort long s o = .next (refuseBusy s) :=
  if_pos (decide_eq_true h)

/-- An idle block checks FATAL and then the length of a command. -/
theorem atPort_of_idle {s : State} (h : s.phase = .idle) (long : Bool) (o : Host.Outcome State Fault Refusal) :
    atPort long s o = if s.fatal then .next (refuse .eFatal s) else if long then .next (refuse .eLen s) else o :=
  if_neg (by simp [State.busy, h])

/-- The four operations: the checks, then the setup step, then the operation's own part or the exception. -/
theorem exec_eq_atPort {i : Instr} {pin : Pin} (h : instrPin? i = some pin) (s : State) :
    exec i s = atPort (overlong i) s (withInstrCommand i (.next (finishOperation i (ensureInitialized pin s)))) := by
  have hlatched := ensureInitialized_latchOperands i pin s
  cases i <;> cases h
  case init =>
    change atPort _ s (.next (conclude (ensureInitialized pin (latchOperands (.init pin) s)))) = _
    rw [hlatched]
    cases ensureInitialized pin s <;> rfl
  case send n command =>
    change atPort _ s (withCommand n command (.next (conclude
      ((ensureInitialized pin (latchOperands (.send pin n command) s)).andThen _)))) = _
    rw [hlatched]
    cases ensureInitialized pin s <;> rfl
  case recv =>
    change atPort _ s (.next (conclude ((ensureInitialized pin (latchOperands (.recv pin) s)).andThen _))) = _
    rw [hlatched]
    cases ensureInitialized pin s <;> rfl
  case xfer n command =>
    change atPort _ s (withCommand n command (.next (conclude
      (((ensureInitialized pin (latchOperands (.xfer pin n command) s)).andThen _).andThen (receiveBody pin))))) = _
    rw [hlatched]
    cases hr : ensureInitialized pin s with
    | raised u => rfl
    | goesOn u =>
      have hu : u.inited = true := inited_of_goesOn hr
      have hsent : (transmitCommand pin n command (latchOperands (.xfer pin n command) u)).inited = true := hu
      simp only [Ran.map, Ran.andThen, receiveBody, ensureInitialized_of_inited hsent]
      rfl

/-- ACCEPT and SETUP of the four operations: the same checks and the same setup step, then the first state of the path. -/
theorem accept_eq_atPort {i : Instr} {pin : Pin} (h : instrPin? i = some pin) (s : State) :
    accept i s = atPort (overlong i) s (withInstrCommand i (.next (enterPath i (ensureInitialized pin s)))) := by
  have hsetup : setup pin (firstPhase i) (latchOperands i s) = enterPath i (ensureInitialized pin s) := by
    rw [setup, ensureInitialized_latchOperands]
    cases ensureInitialized pin s
    · rfl
    · exact takeHwConfigFailure_latchOperands i _
  rw [← hsetup]
  cases i <;> cases h <;> rfl

/-- A command of N bytes is performed. -/
theorem withInstrCommand_of_isN {i : Instr} (h : CommandIsN i) (o : Host.Outcome State Fault Refusal) :
    withInstrCommand i o = o := by
  cases i with
  | send pin n command => exact withCommand_goes h
  | xfer pin n command => exact withCommand_goes h
  | _ => rfl

/-- The check of the command's number of bytes lets the operation through, or no width makes it well formed. -/
theorem withInstrCommand_cases (i : Instr) :
    (CommandIsN i ∧ ∀ o, withInstrCommand i o = o) ∨
    ((∀ W, i.wf W = false) ∧ ∀ o, withInstrCommand i o = .fault .commandNotNBytes) := by
  by_cases hn : CommandIsN i
  · exact .inl ⟨hn, withInstrCommand_of_isN hn⟩
  · right
    cases i with
    | send pin n command => exact ⟨fun W => by simp [Instr.wf, show ¬ command.length = n from hn], fun o => if_neg hn⟩
    | xfer pin n command => exact ⟨fun W => by simp [Instr.wf, show ¬ command.length = n from hn], fun o => if_neg hn⟩
    | _ => exact absurd trivial hn

/-- A well-formed instruction has a command of N bytes. -/
theorem commandIsN_of_wf {i : Instr} {W : Widths} (h : i.wf W = true) : CommandIsN i := by
  obtain ⟨hn, -⟩ | ⟨hwf, -⟩ := withInstrCommand_cases i
  · exact hn
  · rw [hwf] at h
    cases h

/-- Everything that a transceiver operation can do at the port, whole or as ACCEPT: a busy block refuses it, a check of
42 R178 refuses it, it stops because its command is not N bytes, or it is accepted. -/
theorem operation_cases {i : Instr} {pin : Pin} (h : instrPin? i = some pin) (s : State) :
    (s.phase ≠ .idle ∧ exec i s = .next (refuseBusy s) ∧ accept i s = .next (refuseBusy s)) ∨
    (s.phase = .idle ∧ ∃ code, code ≠ .eBusy ∧ exec i s = .next (refuse code s) ∧ accept i s = .next (refuse code s)) ∨
    ((∀ W, i.wf W = false) ∧ exec i s = .fault .commandNotNBytes ∧ accept i s = .fault .commandNotNBytes) ∨
    ((s.phase = .idle ∧ s.fatal = false ∧ overlong i = false ∧ CommandIsN i) ∧
      exec i s = .next (finishOperation i (ensureInitialized pin s)) ∧
      accept i s = .next (enterPath i (ensureInitialized pin s))) := by
  rw [exec_eq_atPort h, accept_eq_atPort h]
  by_cases hidle : s.phase = .idle
  case neg => exact .inl ⟨hidle, atPort_of_busy hidle _ _, atPort_of_busy hidle _ _⟩
  rw [atPort_of_idle hidle, atPort_of_idle hidle]
  right
  cases hfatal : s.fatal
  case true => exact .inl ⟨hidle, .eFatal, by decide, rfl, rfl⟩
  cases hlong : overlong i
  case true => exact .inl ⟨hidle, .eLen, by decide, rfl, rfl⟩
  obtain ⟨hn, hgoes⟩ | ⟨hwf, hstop⟩ := withInstrCommand_cases i
  · exact .inr (.inr ⟨⟨hidle, rfl, rfl, hn⟩, hgoes _, hgoes _⟩)
  · exact .inr (.inl ⟨hwf, hstop _, hstop _⟩)

/-- An operation that the checks let through, whole. -/
theorem exec_of_accepted {i : Instr} {pin : Pin} {s : State} (h : instrPin? i = some pin) (hidle : s.phase = .idle)
    (hfatal : s.fatal = false) (hlong : overlong i = false) (hn : CommandIsN i) :
    exec i s = .next (finishOperation i (ensureInitialized pin s)) := by
  rw [exec_eq_atPort h, atPort_goes hidle hfatal hlong, withInstrCommand_of_isN hn]

/-- An operation that the checks let through, up to the first state of its path. -/
theorem accept_of_accepted {i : Instr} {pin : Pin} {s : State} (h : instrPin? i = some pin) (hidle : s.phase = .idle)
    (hfatal : s.fatal = false) (hlong : overlong i = false) (hn : CommandIsN i) :
    accept i s = .next (enterPath i (ensureInitialized pin s)) := by
  rw [accept_eq_atPort h, atPort_goes hidle hfatal hlong, withInstrCommand_of_isN hn]

/-! ### The other instructions -/

/-- `t` differs from `s` only in what stands at the ports, in ERR and in the port's report: what a refusal, ENC, DEC, a
pulse word and the taking off of a presentation leave. -/
def SameButPorts (s t : State) : Prop :=
  t = { s with
    err := t.err, encIn := t.encIn, decIn := t.decIn, signal := t.signal, presented := t.presented }

theorem sameButPorts_refuse (code : ErrCode) (s : State) : SameButPorts s (refuse code s) := rfl

theorem sameButPorts_refuseBusy (s : State) : SameButPorts s (refuseBusy s) := rfl

/-- The registers, flags, buffers and events that such a change leaves alone, as far as later proofs read them. -/
theorem SameButPorts.eqs {s t : State} (h : SameButPorts s t) :
    t.widths = s.widths ∧ t.inited = s.inited ∧ t.fatal = s.fatal ∧ t.phase = s.phase ∧ t.rlen = s.rlen ∧
      t.rpt = s.rpt ∧ t.history = s.history := by
  rw [h]
  exact ⟨rfl, rfl, rfl, rfl, rfl, rfl, rfl⟩

/-- An instruction without a pin is over at once in both descriptions. -/
theorem accept_of_noPin {i : Instr} (h : instrPin? i = none) (s : State) : accept i s = exec i s := by
  cases i <;> cases h <;> rfl

/-- A group with one more pulse that fits still fits. -/
theorem fits_set {w : Nat} {g : PulseGroup} {slot : Fin 8} {p : Pulse} (hg : g.fits w = true) (hp : p.fits w = true) :
    (g.set slot p).fits w = true := by
  refine Eight.fits_iff.mpr fun j => ?_
  rw [Eight.get_set]
  split
  · exact hp
  · exact Eight.fits_iff.mp hg j

/-- ENC at the port: the operand stands on ENC_IN, and the operation completes or is refused (40 R133). -/
theorem exec_enc_cases (value : Byte) (s : State) :
    (s.phase ≠ .idle ∧ exec (.enc value) s = .next { s with encIn := value, signal := some (.refused .eBusy) }) ∨
    (s.phase = .idle ∧ exec (.enc value) s = .next { s with encIn := value, signal := some .completed }) :=
  atIdle_cases { s with encIn := value } _

/-- DEC at the port: the operand stands on DEC_IN, and the operation completes or is refused (40 R141). -/
theorem exec_dec_cases (pulses : PulseGroup) (s : State) :
    (s.phase ≠ .idle ∧ exec (.dec pulses) s = .next { s with decIn := pulses, signal := some (.refused .eBusy) }) ∨
    (s.phase = .idle ∧ exec (.dec pulses) s = .next { s with decIn := pulses, signal := some .completed }) :=
  atIdle_cases { s with decIn := pulses } _

/-- A reserved code at the port: E_BUSY, else E_OP (30 R116). -/
theorem reservedCode_cases (s : State) :
    (s.phase ≠ .idle ∧ reservedCode s = .next (refuseBusy s)) ∨
    (s.phase = .idle ∧ reservedCode s = .next (refuse .eOp s)) :=
  atIdle_cases s _

/-- An instruction without a pin answers a next state in every state, in which only the ports, ERR and the report differ;
ERR is as before or E_OP, and legal operands leave DEC_IN with its bits. -/
theorem exec_of_noPin {i : Instr} (h : instrPin? i = none) (s : State) :
    ∃ t, exec i s = .next t ∧ SameButPorts s t ∧ (t.err = s.err ∨ t.err = .eOp) ∧
      (s.widths.legal = true → i.wf s.widths = true → s.decIn.fits s.widths.durW = true →
        t.decIn.fits s.widths.durW = true) := by
  have hreserved : ∃ t, reservedCode s = .next t ∧ SameButPorts s t ∧ (t.err = s.err ∨ t.err = .eOp) ∧
      t.decIn = s.decIn := by
    obtain ⟨-, e⟩ | ⟨-, e⟩ := reservedCode_cases s
    · exact ⟨_, e, rfl, .inl rfl, rfl⟩
    · exact ⟨_, e, rfl, .inr rfl, rfl⟩
  have hdriven (slot : Fin 8) {p : Pulse} (hp : p = Pulse.zero ∨ p = Pulse.one ∨ p = Pulse.stop)
      (hW : s.widths.legal = true) (hfits : s.decIn.fits s.widths.durW = true) :
      (drivePulse slot p s).decIn.fits s.widths.durW = true :=
    fits_set hfits (fits_canonical (Widths.two_le_durW hW) hp)
  cases i with
  | enc value =>
    obtain ⟨-, e⟩ | ⟨-, e⟩ := exec_enc_cases value s <;> exact ⟨_, e, rfl, .inl rfl, fun _ _ hfits => hfits⟩
  | dec pulses =>
    obtain ⟨-, e⟩ | ⟨-, e⟩ := exec_dec_cases pulses s <;> exact ⟨_, e, rfl, .inl rfl, fun _ hwf _ => hwf⟩
  | reserved000 =>
    obtain ⟨t, e, hsame, herr, hdec⟩ := hreserved
    exact ⟨t, e, hsame, herr, fun _ _ hfits => hdec ▸ hfits⟩
  | reserved111 =>
    obtain ⟨t, e, hsame, herr, hdec⟩ := hreserved
    exact ⟨t, e, hsame, herr, fun _ _ hfits => hdec ▸ hfits⟩
  | zero slot => exact ⟨_, rfl, rfl, .inl rfl, fun hW _ hfits => hdriven slot (.inl rfl) hW hfits⟩
  | one slot => exact ⟨_, rfl, rfl, .inl rfl, fun hW _ hfits => hdriven slot (.inr (.inl rfl)) hW hfits⟩
  | stop slot => exact ⟨_, rfl, rfl, .inl rfl, fun hW _ hfits => hdriven slot (.inr (.inr rfl)) hW hfits⟩
  | init pin => cases h
  | send pin n command => cases h
  | recv pin => cases h
  | xfer pin n command => cases h

/-! ### The state machine against the operations -/

/-- From the first state of its path an operation's transitions give what the whole operation gives (42 R187). -/
theorem settle_enterPath {i : Instr} {pin : Pin} (h : instrPin? i = some pin) (hn : CommandIsN i) (r : Ran) :
    settle 4 (enterPath i r) = .next (finishOperation i r) := by
  cases r with
  | raised s => exact settle_of_idle rfl 4
  | goesOn s =>
    have hsending {s : State} {op : TransceiverOp} {n : Nat} {command : List Byte} (hn : command.length = n)
        (hpath : op = .xfer ∨ op = .send) :
        settle 4 ((latchCommand n command (latch op pin s)).goTo .sending) =
          settle 3 ((transmitCommand pin n command (latchCommand n command (latch op pin s))).goTo
            (if op = .xfer then .awaitingResponse else .done)) := by
      rw [settle_of_busy (by simp),
        advance_sending (s := latchCommand n command (latch op pin s)) rfl rfl (memRead_memWrite s.cmd command n hn) rfl
          hpath]
      rfl
    cases i <;> cases h
    case goesOn.init => exact settle_done _ 3
    case goesOn.send n command => exact (hsending hn (.inr rfl)).trans (settle_done _ 2)
    case goesOn.recv => exact settle_awaiting rfl 1
    case goesOn.xfer n command => exact (hsending hn (.inl rfl)).trans (settle_awaiting rfl 0)

/-- A busy block answers the same in both descriptions: it refuses. -/
theorem exec_eq_accept_of_busy {s : State} (hbusy : s.phase ≠ .idle) (i : Instr) : exec i s = accept i s := by
  cases h : instrPin? i with
  | none => exact (accept_of_noPin h s).symm
  | some pin =>
    obtain ⟨-, hexec, haccept⟩ | ⟨hidle, -⟩ | ⟨-, hexec, haccept⟩ | ⟨⟨hidle, -⟩, -⟩ := operation_cases h s
    · rw [hexec, haccept]
    · exact absurd hidle hbusy
    · rw [hexec, haccept]
    · exact absurd hidle hbusy

/-- At an idle block an operation is its acceptance and at most four transitions (42 R187). -/
theorem onNext_accept_settle {s : State} (hidle : s.phase = .idle) (i : Instr) :
    onNext (accept i s) (settle 4) = exec i s := by
  cases h : instrPin? i with
  | none =>
    obtain ⟨t, e, hsame, -⟩ := exec_of_noPin h s
    obtain ⟨-, -, -, hphase, -⟩ := hsame.eqs
    rw [accept_of_noPin h, e]
    exact settle_of_idle (hphase.trans hidle) 4
  | some pin =>
    obtain ⟨hbusy, -⟩ | ⟨-, code, -, hexec, haccept⟩ | ⟨-, hexec, haccept⟩ | ⟨⟨-, -, -, hn⟩, hexec, haccept⟩ :=
      operation_cases h s
    · exact absurd hidle hbusy
    · rw [hexec, haccept]
      exact settle_of_idle (s := refuse code s) hidle 4
    · rw [hexec, haccept, onNext]
    · rw [hexec, haccept]
      exact settle_enterPath h hn _

/-- Every well-formed instruction is answered in every state, whole and as ACCEPT. -/
theorem exec_accept_next_of_wf {i : Instr} {s : State} (hwf : i.wf s.widths = true) :
    (∃ t, exec i s = .next t) ∧ ∃ t, accept i s = .next t := by
  cases h : instrPin? i with
  | none =>
    obtain ⟨t, e, -⟩ := exec_of_noPin h s
    exact ⟨⟨t, e⟩, t, (accept_of_noPin h s).trans e⟩
  | some pin =>
    obtain ⟨-, hexec, haccept⟩ | ⟨-, code, -, hexec, haccept⟩ | ⟨hnot, -⟩ | ⟨-, hexec, haccept⟩ := operation_cases h s
    · exact ⟨⟨_, hexec⟩, _, haccept⟩
    · exact ⟨⟨_, hexec⟩, _, haccept⟩
    · rw [hnot] at hwf
      cases hwf
    · exact ⟨⟨_, hexec⟩, _, haccept⟩

end Sys2Proof.Machine

namespace Sys2Proof

open Machine

/-! ### The obligations -/

/-- Settles O44: the instruction need not even be well formed, since both descriptions then stop alike. -/
theorem sequencerAgreesWithOperations : Obligations.SequencerAgreesWithOperations :=
  fun i _ hidle _ => onNext_accept_settle hidle i

/-- Settles O36: the one stop at the port is a command that is not N bytes. -/
theorem everyWellFormedInstructionAnswersNext : Obligations.EveryWellFormedInstructionAnswersNext :=
  fun _ _ hwf => (exec_accept_next_of_wf hwf).1

/-- Settles O12: both answers of the port change the operand's wires and the report only. -/
theorem codecOperationsWriteNoState : Obligations.CodecOperationsWriteNoState := by
  refine ⟨fun value s t h => ?_, fun pulses s t h => ?_⟩
  · obtain ⟨-, e⟩ | ⟨-, e⟩ := exec_enc_cases value s <;> rw [e] at h <;> cases h <;> exact ⟨rfl, rfl⟩
  · obtain ⟨-, e⟩ | ⟨-, e⟩ := exec_dec_cases pulses s <;> rw [e] at h <;> cases h <;> exact ⟨rfl, rfl⟩

/-- Settles O13: the answer of the idle port. -/
theorem codecOperationsCompleteAtTheIdlePort : Obligations.CodecOperationsCompleteAtTheIdlePort := by
  refine fun s hidle => ⟨fun value => ?_, fun pulses => ?_⟩
  · obtain ⟨hbusy, -⟩ | ⟨-, e⟩ := exec_enc_cases value s
    · exact absurd hidle hbusy
    · exact ⟨_, e, rfl, rfl⟩
  · obtain ⟨hbusy, -⟩ | ⟨-, e⟩ := exec_dec_cases pulses s
    · exact absurd hidle hbusy
    · exact ⟨_, e, rfl, rfl⟩

/-- Settles O17: one wire of DEC_IN is set, and each bit of DEC_OUT reads its own wire. -/
theorem pulseWordDrivesOneDecoderWire : Obligations.PulseWordDrivesOneDecoderWire := by
  intro slot s
  have hbit (p : Pulse) (j : Fin 8) : (drivePulse slot p s).decOut.getLsbD (7 - j.val) =
      if j = slot then pulseToBit p else s.decOut.getLsbD (7 - j.val) := by
    rw [State.decOut, State.decOut, getLsbD_decodeByte, getLsbD_decodeByte, drivePulse_decIn, Eight.get_set]
    exact apply_ite pulseToBit _ _ _
  exact ⟨⟨_, rfl, rfl, fun j => Eight.get_set _ _ j _, hbit Pulse.zero⟩,
    ⟨_, rfl, rfl, fun j => Eight.get_set _ _ j _, hbit Pulse.one⟩,
    ⟨_, rfl, rfl, fun j => Eight.get_set _ _ j _, hbit Pulse.stop⟩⟩

/-- Settles O25: the first answer of each instruction at the port. -/
theorem busyBlockRefusesEveryOperation : Obligations.BusyBlockRefusesEveryOperation := by
  intro s hbusy
  have hreserved : reservedCode s = .next (refuseBusy s) :=
    (reservedCode_cases s).elim (fun h => h.2) fun h => absurd h.1 hbusy
  refine ⟨?_, fun value => ?_, fun pulses => ?_⟩
  · rintro i (⟨pin, h⟩ | rfl | rfl)
    · rw [exec_eq_atPort h]
      exact atPort_of_busy hbusy _ _
    · exact hreserved
    · exact hreserved
  · exact (exec_enc_cases value s).elim (fun h => h.2) fun h => absurd h.1 hbusy
  · exact (exec_dec_cases pulses s).elim (fun h => h.2) fun h => absurd h.1 hbusy

/-- Settles O26: the second answer of a reserved code. -/
theorem reservedCodesAreRefusedWithEOp : Obligations.ReservedCodesAreRefusedWithEOp := by
  intro s hidle
  have hreserved : reservedCode s = .next (refuse .eOp s) :=
    (reservedCode_cases s).elim (fun h => absurd hidle h.1) fun h => h.2
  exact ⟨hreserved, hreserved⟩

/-- Settles O27: the check E_FATAL comes before the command is looked at. -/
theorem fatalBlockRefusesTransceiverOperations : Obligations.FatalBlockRefusesTransceiverOperations := by
  intro s i pin hidle hfatal h
  rw [exec_eq_atPort h, atPort_of_idle hidle]
  exact if_pos hfatal

/-- Settles O28: the check E_LEN of the two operations that have a command. -/
theorem overlongCommandIsRefusedWithELen : Obligations.OverlongCommandIsRefusedWithELen := by
  intro s pin n command hidle hfatal hn
  have hrefused (i : Instr) (h : instrPin? i = some pin) (hlong : overlong i = true) :
      exec i s = .next (refuse .eLen s) := by
    rw [exec_eq_atPort h, atPort_of_idle hidle]
    exact (if_neg (ne_true_of_eq_false hfatal)).trans (if_pos hlong)
  exact ⟨hrefused (.send pin n command) rfl (commandTooLong_eq_true.mpr hn),
    hrefused (.xfer pin n command) rfl (commandTooLong_eq_true.mpr hn)⟩

end Sys2Proof
end

section
/-! PROOFS. What a step can do: each transition of PHASE (42_transceiver.md section 2), the two step functions as their
closure, and what no step undoes (10_state.md R54 a, R55). -/

namespace Sys2Proof.Machine

/-! ### The transitions of PHASE -/

theorem goTo_self {s : State} {p : Phase} (h : s.phase = p) : s.goTo p = s := by
  subst h
  rfl

/-- What one transition of PHASE can do, one constructor for each way out of a state (42 R180 to R184, 70 R253). -/
inductive Transition (s : State) : State → Prop
  /-- The block waits in IDLE. -/
  | waits : s.phase = .idle → Transition s s
  /-- SENDING, with the operands that it reads. -/
  | sends {pin : Pin} {n : Nat} {command : List Byte} {op : TransceiverOp} :
    s.phase = .sending → s.pinr = some pin → s.cmdlen = some n → memRead s.cmd 0 n = some command →
    s.curop = some op → op = .xfer ∨ op = .send →
    Transition s ((transmitCommand pin n command s).goTo (if op = .xfer then .awaitingResponse else .done))
  /-- AWAITING_RESPONSE where no train comes; `rest` and `k` are what the environment has left. -/
  | timesOut {pin : Pin} {rest : List CaptureAnswer} {k : Nat} :
    s.phase = .awaitingResponse → s.pinr = some pin →
    Transition s
      ((({ s with captureAnswers := rest, draws := k } : State).record (.capture pin 100 .noTrain)).goTo .timeout)
  /-- AWAITING_RESPONSE where a train comes, whose pulses have the ports' bits. -/
  | captures {pin : Pin} {rest : List CaptureAnswer} {k : Nat} {h : Handle} {train : List Pulse} :
    s.phase = .awaitingResponse → s.pinr = some pin → (∀ p ∈ train, p.fits s.widths.durW = true) →
    Transition s
      ((holdTrain h train
        (({ s with captureAnswers := rest, draws := k } : State).record (.capture pin 100 (.train h train)))).goTo
          .decoding)
  /-- DECODING of what is held. -/
  | decodes {count : Nat} {h : Handle} {result : Nat × List Byte} :
    s.phase = .decoding → s.capcnt = some count → s.caph = some h → decodeFrame? count s.rx = some result →
    Transition s ((releaseTrain h (writeReport result s)).goTo .done)
  /-- TIMEOUT. -/
  | reportsNothing : s.phase = .timeout → Transition s ((emptyReport s).goTo .done)
  /-- DONE. -/
  | completes : s.phase = .done → Transition s (complete s)

/-- A value that was read was there. -/
theorem withValue_eq_next {α : Type} {e : Element} {x : Option α} {k : α → Host.Outcome State Fault Refusal} {t : State}
    (h : withValue e x k = .next t) : ∃ a, x = some a ∧ k a = .next t := by
  obtain ⟨-, e⟩ | ⟨a, hx, e⟩ := withValue_cases e x k <;> rw [e] at h
  · cases h
  · exact ⟨a, hx, h⟩

/-- SENDING goes on for SEND and XFER only. -/
theorem curop_of_afterSending {s t : State} (h : afterSending s = .next t) :
    ∃ op, s.curop = some op ∧ (op = .xfer ∨ op = .send) := by
  obtain ⟨op, hop, h⟩ := withValue_eq_next h
  refine ⟨op, hop, ?_⟩
  cases op with
  | xfer => exact .inl rfl
  | send => exact .inr rfl
  | init => cases h
  | recv => cases h

/-- Every transition that goes on is one of these. -/
theorem transition_of_advance {s t : State} (h : advance s = .next t) : Transition s t := by
  cases hphase : s.phase with
  | idle =>
    simp only [advance, hphase] at h
    cases h
    exact .waits hphase
  | sending =>
    have hsent := h
    simp only [advance, hphase] at h
    obtain ⟨pin, hpin, h⟩ := withValue_eq_next h
    obtain ⟨n, hn, h⟩ := withValue_eq_next h
    obtain ⟨command, hcmd, h⟩ := withValue_eq_next h
    obtain ⟨train, -, h⟩ := withValue_eq_next h
    obtain ⟨op, hop, hpath⟩ := curop_of_afterSending h
    rw [← goTo_self hphase, advance_sending hpin hn hcmd hop hpath] at hsent
    cases hsent
    exact .sends hphase hpin hn hcmd hop hpath
  | awaitingResponse =>
    have hcaptured := h
    simp only [advance, hphase] at h
    obtain ⟨pin, hpin, -⟩ := withValue_eq_next h
    obtain ⟨answer, rest, k, hdraw, hfits⟩ := drawCapture_cases s
    rw [← goTo_self hphase, advance_awaiting hpin, hdraw] at hcaptured
    cases answer with
    | noTrain =>
      cases hcaptured
      exact .timesOut hphase hpin
    | train handle train =>
      cases hcaptured
      exact .captures hphase hpin (hfits handle train rfl)
  | decoding =>
    simp only [advance, hphase] at h
    obtain ⟨count, hcount, h⟩ := withValue_eq_next h
    obtain ⟨handle, hcaph, h⟩ := withValue_eq_next h
    obtain ⟨result, hresult, h⟩ := withValue_eq_next h
    cases h
    exact .decodes hphase hcount hcaph hresult
  | timeout =>
    rw [advance_of_timeout hphase] at h
    cases h
    exact .reportsNothing hphase
  | done =>
    simp only [advance, hphase] at h
    cases h
    exact .completes hphase

/-! ### The two step functions as a closure of transitions -/

/-- A relation that ACCEPT, the transitions of PHASE, the taking off of a presentation and a pulse on a wire keep, and that
can be chained. -/
structure KeptByTransitions (R : State → State → Prop) : Prop where
  refl : ∀ s, R s s
  trans : ∀ s t u, R s t → R t u → R s u
  accept : ∀ i s t, i.wf s.widths = true → accept i s = .next t → R s t
  advance : ∀ s t, Transition s t → R s t
  pop : ∀ s, R s s.popPresented
  drive : ∀ slot p s, p.fits s.widths.durW = true → R s (drivePulse slot p s)

/-- What follows a part that answered a next state. -/
theorem onNext_eq_next {o : Host.Outcome State Fault Refusal} {k : State → Host.Outcome State Fault Refusal} {t : State}
    (h : onNext o k = .next t) : ∃ u, o = .next u ∧ k u = .next t := by
  cases o with
  | next u => exact ⟨u, rfl, h⟩
  | fault f => cases h
  | refused r => cases h

section

variable {R : State → State → Prop} (hR : KeptByTransitions R)
include hR

theorem KeptByTransitions.settle (k : Nat) : ∀ {s t : State}, settle k s = .next t → R s t := by
  induction k with
  | zero =>
    intro s t h
    cases h
    exact hR.refl s
  | succ k ih =>
    intro s t h
    by_cases hidle : s.phase = .idle
    · rw [settle_of_idle hidle] at h
      cases h
      exact hR.refl s
    · rw [settle_of_busy hidle] at h
      obtain ⟨u, hadvance, hsettle⟩ := onNext_eq_next h
      exact hR.trans s u t (hR.advance s u (transition_of_advance hadvance)) (ih hsettle)

/-- A whole operation keeps what its acceptance and the transitions keep (42 R187). -/
theorem KeptByTransitions.exec {i : Instr} {s t : State} (hwf : i.wf s.widths = true) (h : exec i s = .next t) :
    R s t := by
  by_cases hidle : s.phase = .idle
  · rw [← onNext_accept_settle hidle] at h
    obtain ⟨u, haccept, hsettle⟩ := onNext_eq_next h
    exact hR.trans s u t (hR.accept i s u hwf haccept) (hR.settle 4 hsettle)
  · rw [exec_eq_accept_of_busy hidle] at h
    exact hR.accept i s t hwf h

theorem KeptByTransitions.runPresented {run : Instr → State → Host.Outcome State Fault Refusal}
    (hrun : ∀ i s t, i.wf s.widths = true → run i s = .next t → R s t) {p : Presented} {s t : State}
    (h : runPresented run p s = .next t) : R s t := by
  obtain ⟨i, hdecode, e⟩ | ⟨slot, q, hdecode, e⟩ := runPresented_cases run p s <;> rw [e] at h
  · exact hR.trans s _ t (hR.pop s) (hrun i _ t (wf_of_decode (W := s.widths) hdecode) h)
  · obtain ⟨⟨x, -, rfl⟩, -⟩ := decode_eq_pulse hdecode
    cases h
    exact hR.trans s _ _ (hR.pop s) (hR.drive slot _ _ (fits_ofWord s.widths.durW x))

/-- Every step of either description keeps what the transitions keep. -/
theorem KeptByTransitions.step {s t : State} (h : step s = .next t ∨ seqStep s = .next t) : R s t := by
  unfold Machine.step seqStep at h
  cases hp : s.presented with
  | nil =>
    rw [hp] at h
    exact hR.advance s t (transition_of_advance (h.elim id id))
  | cons p rest =>
    rw [hp] at h
    exact h.elim (hR.runPresented fun _ _ _ => hR.exec) (hR.runPresented hR.accept)

end

/-! ### Events are only appended -/

/-- `t` has the history of `s` with events appended that all meet `P`. -/
def Appends (P : Event → Prop) (s t : State) : Prop := ∃ new, t.history = s.history ++ new ∧ ∀ e ∈ new, P e

theorem Appends.of_eq {P : Event → Prop} {s t : State} (h : t.history = s.history) : Appends P s t :=
  ⟨[], by rw [h, List.append_nil], by simp⟩

theorem Appends.one {P : Event → Prop} {s t : State} {e : Event} (h : t.history = s.history ++ [e]) (he : P e) :
    Appends P s t :=
  ⟨[e], h, by simpa using he⟩

theorem Appends.trans {P : Event → Prop} {s t u : State} (hst : Appends P s t) (htu : Appends P t u) :
    Appends P s u := by
  obtain ⟨new, hnew, hP⟩ := hst
  obtain ⟨more, hmore, hQ⟩ := htu
  exact ⟨new ++ more, by rw [hmore, hnew, List.append_assoc], fun e he => (List.mem_append.mp he).elim (hP e) (hQ e)⟩

theorem Appends.mono {P Q : Event → Prop} {s t : State} (h : Appends P s t) (hPQ : ∀ e, P e → Q e) : Appends Q s t := by
  obtain ⟨new, hnew, hP⟩ := h
  exact ⟨new, hnew, fun e he => hPQ e (hP e he)⟩

/-- The receive after setup, for whatever answer is drawn; `rest` and `k` are what the environment has left. -/
theorem receiveReport_cases (pin : Pin) (s : State) :
    ∃ rest k,
      ((drawCapture s).1 = .noTrain ∧ receiveReport pin s =
        emptyReport (({ s with captureAnswers := rest, draws := k } : State).record (.capture pin 100 .noTrain))) ∨
      ∃ h train, (drawCapture s).1 = .train h train ∧ receiveReport pin s =
        releaseTrain h (writeReport (decodeFrame train) (holdTrain h train
          (({ s with captureAnswers := rest, draws := k } : State).record (.capture pin 100 (.train h train))))) := by
  obtain ⟨answer, rest, k, hdraw, -⟩ := drawCapture_cases s
  refine ⟨rest, k, ?_⟩
  cases answer with
  | noTrain => exact .inl ⟨by rw [hdraw], by rw [receiveReport_of_noTrain (by rw [hdraw]), hdraw]; rfl⟩
  | train h train => exact .inr ⟨h, train, by rw [hdraw], by rw [receiveReport_of_train (by rw [hdraw]), hdraw]; rfl⟩

/-- The setup step makes a CONFIGURE with its pin or nothing. -/
theorem appends_ensureInitialized {P : Event → Prop} {pin : Pin} {s u : State}
    (h : ensureInitialized pin s = .goesOn u ∨ ensureInitialized pin s = .raised u)
    (hP : s.inited = false → ∀ answer, P (.configure pin answer)) : Appends P s u := by
  obtain ⟨hi, e⟩ | ⟨hi, rest, k, e⟩ | ⟨hi, rest, k, e⟩ := ensureInitialized_cases pin s <;> rw [e] at h <;>
    obtain h | h := h <;> cases h
  · exact .of_eq rfl
  · exact .one rfl (hP hi _)
  · exact .one rfl (hP hi _)

/-- The receive makes a CAPTURE with its pin, and a RELEASE of a train. -/
theorem appends_receiveReport {P : Event → Prop} {pin : Pin} (s : State) (hcapture : ∀ a, P (.capture pin 100 a))
    (hrelease : ∀ h, P (.release h)) : Appends P s (receiveReport pin s) := by
  obtain ⟨rest, k, ⟨-, e⟩ | ⟨h, train, -, e⟩⟩ := receiveReport_cases pin s <;> rw [e]
  · exact .one rfl (hcapture _)
  · refine .trans (t := State.record (.capture pin 100 (.train h train)) s) (.one rfl (hcapture _)) (.one rfl (hrelease h))

/-- What follows the setup step makes events with the operation's own pin. -/
theorem appends_operationBody {i : Instr} {pin : Pin} (h : instrPin? i = some pin) (s : State) :
    Appends (fun e => ∀ p, e.pin? = some p → instrPin? i = some p) s (operationBody i s) := by
  cases i <;> cases h
  case init => exact .of_eq rfl
  case send n command => exact .one rfl fun _ => id
  case recv => exact appends_receiveReport s (fun _ _ => id) fun _ _ h => nomatch h
  case xfer n command =>
    exact .trans (.one (t := transmitCommand pin n command s) rfl fun _ => id)
      (appends_receiveReport _ (fun _ _ => id) fun _ _ h => nomatch h)

theorem latchOperands_history (i : Instr) (s : State) : (latchOperands i s).history = s.history := by
  cases i <;> rfl

/-- The events of an operation that name a pin name its own (43 R208). -/
theorem appends_exec {i : Instr} {s t : State} (h : exec i s = .next t) :
    Appends (fun e => ∀ p, e.pin? = some p → instrPin? i = some p) s t := by
  cases hpin : instrPin? i with
  | none =>
    obtain ⟨u, e, hsame, -⟩ := exec_of_noPin hpin s
    obtain ⟨-, -, -, -, -, -, hhistory⟩ := hsame.eqs
    rw [e] at h
    cases h
    exact .of_eq hhistory
  | some pin =>
    obtain ⟨-, e, -⟩ | ⟨-, code, -, e, -⟩ | ⟨-, e, -⟩ | ⟨-, e, -⟩ := operation_cases hpin s <;> rw [e] at h <;> cases h
    · exact .of_eq rfl
    · exact .of_eq rfl
    · have hconfigure : s.inited = false → ∀ answer, ∀ p, (Event.configure pin answer).pin? = some p → some pin = some p :=
        fun _ _ _ => id
      cases hr : ensureInitialized pin s with
      | raised u => exact .trans (appends_ensureInitialized (.inr hr) hconfigure) (.of_eq rfl)
      | goesOn u =>
        refine .trans (appends_ensureInitialized (.inl hr) hconfigure) (.trans (.of_eq (latchOperands_history i u)) ?_)
        rw [← hpin]
        exact .trans (appends_operationBody hpin _) (.of_eq rfl)

/-! ### What no step undoes -/

/-- `t` may come after `s`: INITED and FATAL stay set, the widths stay, and events are appended, no CONFIGURE among them
once INITED is 1 (10 R54 a, R55, 42 R171). -/
structure Continues (s t : State) : Prop where
  inited : s.inited = true → t.inited = true
  fatal : s.fatal = true → t.fatal = true
  widths : t.widths = s.widths
  history : Appends (fun e => s.inited = true → e.isConfigure = false) s t

theorem Continues.trans {s t u : State} (hst : Continues s t) (htu : Continues t u) : Continues s u where
  inited h := htu.inited (hst.inited h)
  fatal h := htu.fatal (hst.fatal h)
  widths := htu.widths.trans hst.widths
  history := hst.history.trans (htu.history.mono fun _ he h => he (hst.inited h))

/-- A change that leaves the flags, the widths and the history alone. -/
theorem Continues.of_eq {s t : State} (hinited : t.inited = s.inited) (hfatal : t.fatal = s.fatal)
    (hwidths : t.widths = s.widths) (hhistory : t.history = s.history) : Continues s t :=
  ⟨hinited.trans, hfatal.trans, hwidths, .of_eq hhistory⟩

theorem SameButPorts.continues {s t : State} (h : SameButPorts s t) : Continues s t := by
  obtain ⟨hwidths, hinited, hfatal, -, -, -, hhistory⟩ := h.eqs
  exact .of_eq hinited hfatal hwidths hhistory

theorem continues_latchOperands (i : Instr) (s : State) : Continues s (latchOperands i s) := by
  cases i <;> exact .of_eq rfl rfl rfl rfl

theorem continues_ensureInitialized {pin : Pin} {s u : State}
    (h : ensureInitialized pin s = .goesOn u ∨ ensureInitialized pin s = .raised u) : Continues s u := by
  have hhistory := appends_ensureInitialized (P := fun e => s.inited = true → e.isConfigure = false) h
    fun hnot _ hi => absurd hi (ne_true_of_eq_false hnot)
  obtain ⟨-, e⟩ | ⟨-, rest, k, e⟩ | ⟨-, rest, k, e⟩ := ensureInitialized_cases pin s <;> rw [e] at h <;>
    obtain h | h := h <;> cases h
  · exact ⟨id, id, rfl, hhistory⟩
  · exact ⟨fun _ => rfl, id, rfl, hhistory⟩
  · exact ⟨id, fun _ => rfl, rfl, hhistory⟩

theorem continues_enterPath (i : Instr) (pin : Pin) (s : State) :
    Continues s (enterPath i (ensureInitialized pin s)) := by
  cases hr : ensureInitialized pin s with
  | goesOn u =>
    exact (continues_ensureInitialized (.inl hr)).trans ((continues_latchOperands i u).trans (.of_eq rfl rfl rfl rfl))
  | raised u => exact (continues_ensureInitialized (.inr hr)).trans ⟨id, fun _ => rfl, rfl, .of_eq rfl⟩

theorem continues_accept {i : Instr} {s t : State} (h : accept i s = .next t) : Continues s t := by
  cases hpin : instrPin? i with
  | none =>
    obtain ⟨u, e, hsame, -⟩ := exec_of_noPin hpin s
    rw [accept_of_noPin hpin, e] at h
    cases h
    exact hsame.continues
  | some pin =>
    obtain ⟨-, -, e⟩ | ⟨-, code, -, -, e⟩ | ⟨-, -, e⟩ | ⟨-, -, e⟩ := operation_cases hpin s <;> rw [e] at h <;> cases h
    · exact (sameButPorts_refuseBusy s).continues
    · exact (sameButPorts_refuse code s).continues
    · exact continues_enterPath i pin s

theorem Transition.continues {s t : State} (h : Transition s t) : Continues s t := by
  cases h with
  | waits => exact .of_eq rfl rfl rfl rfl
  | sends => exact ⟨id, id, rfl, .one rfl fun _ => rfl⟩
  | timesOut => exact ⟨id, id, rfl, .one rfl fun _ => rfl⟩
  | captures => exact ⟨id, id, rfl, .one rfl fun _ => rfl⟩
  | decodes => exact ⟨id, id, rfl, .one rfl fun _ => rfl⟩
  | reportsNothing => exact .of_eq rfl rfl rfl rfl
  | completes => exact .of_eq rfl rfl rfl rfl

theorem keptByTransitions_continues : KeptByTransitions Continues where
  refl _ := .of_eq rfl rfl rfl rfl
  trans _ _ _ := .trans
  accept _ _ _ _ := continues_accept
  advance _ _ := Transition.continues
  pop _ := .of_eq rfl rfl rfl rfl
  drive _ _ _ _ := .of_eq rfl rfl rfl rfl

/-! ### What stands on the ports -/

theorem popPresented_eq {s : State} {p : Presented} {rest : List Presented} (h : s.presented = p :: rest) :
    s.popPresented = { s with presented := rest } := by
  rw [State.popPresented, h, List.tail_cons]

/-- A pulse word on a wire, with a row of its own or without: its pulse stands on the wire (30 R111). -/
theorem runPresented_pulseWord {run : Instr → State → Host.Outcome State Fault Refusal} (slot : Fin 8) (x : Nat)
    (s : State) (hzero : run (.zero slot) s.popPresented = .next (drivePulse slot .zero s.popPresented))
    (hone : run (.one slot) s.popPresented = .next (drivePulse slot .one s.popPresented))
    (hstop : run (.stop slot) s.popPresented = .next (drivePulse slot .stop s.popPresented)) :
    runPresented run (.pulseWord slot x) s =
      .next (drivePulse slot (Pulse.ofWord s.widths.durW x) s.popPresented) := by
  obtain ⟨hp, e⟩ | ⟨hp, e⟩ | ⟨hp, e⟩ | ⟨-, e⟩ := decodePulse_cases slot (Pulse.ofWord s.widths.durW x)
  · rw [runPresented, decode, e, hp, ← hzero]
  · rw [runPresented, decode, e, hp, ← hone]
  · rw [runPresented, decode, e, hp, ← hstop]
  · rw [runPresented, decode, e]

end Sys2Proof.Machine

namespace Sys2Proof

open Machine

/-! ### The obligations -/

/-- Settles O48: `Continues` of the transitions, lifted to both step functions. -/
theorem noStepClearsInitedOrFatal : Obligations.NoStepClearsInitedOrFatal := by
  intro s t h
  have hcontinues := keptByTransitions_continues.step h
  exact ⟨hcontinues.inited, hcontinues.fatal, hcontinues.widths⟩

/-- Settles O49: `Continues` for every step, and the events of a whole operation for the pins. -/
theorem eventsAreAppendedAndCarryThePin : Obligations.EventsAreAppendedAndCarryThePin := by
  refine ⟨fun s t h => ?_, fun i s t h => appends_exec h⟩
  obtain ⟨new, hnew, hconfigure⟩ := (keptByTransitions_continues.step h).history
  exact ⟨new, hnew, fun hi e he => hconfigure e he hi⟩

/-- Settles O46: what was decoded is performed on the state with its presentation taken off. -/
theorem stepPerformsThePresentedOperation : Obligations.StepPerformsThePresentedOperation := by
  intro s p rest hp
  have hstep : step s = runPresented exec p s := by simp only [step, hp]
  refine ⟨fun i h => ?_, fun slot q h => ?_⟩ <;> rw [hstep, runPresented, h, popPresented_eq hp]
  rfl

/-- Settles O47: with nothing on the ports both step functions are the transition of PHASE. -/
theorem nothingPresentedWaitsOrGoesOn : Obligations.NothingPresentedWaitsOrGoesOn := by
  intro s hp
  have hstep : step s = advance s := by simp only [step, hp]
  have hseq : seqStep s = advance s := by simp only [seqStep, hp]
  refine ⟨fun hidle => ?_, fun _ => hstep, hseq.trans hstep.symm⟩
  rw [hstep, advance, hidle]

/-- Settles O18: the three canonical words and every other word end in the same drive of one wire. -/
theorem everyPulseWordIsLegalOnItsWire : Obligations.EveryPulseWordIsLegalOnItsWire := by
  intro s slot x rest hp
  have hexec := runPresented_pulseWord (run := exec) slot x s rfl rfl rfl
  have haccept := runPresented_pulseWord (run := accept) slot x s rfl rfl rfl
  rw [popPresented_eq hp] at hexec haccept
  refine ⟨drivePulse slot (Pulse.ofWord s.widths.durW x) { s with presented := rest }, ?_, ?_, rfl,
    fun j => Eight.get_set _ _ j _, rfl⟩
  · simpa only [step, hp] using hexec
  · simpa only [seqStep, hp] using haccept

end Sys2Proof
end

section
/-! PROOFS. The invariant of the block (10_state.md R54, 42_transceiver.md R190): what each transition and each acceptance
leaves of it, and what it gives: every operation ends, and every run makes a legal history. -/

namespace Sys2Proof

/-- A built train is one that a TRANSMIT may carry: whole bytes of ZERO and ONE, then STOP (42 R190 e, 41 R153). -/
theorem isCommandTrain_buildTrain (command : List Byte) : Machine.isCommandTrain (buildTrain command) = true := by
  have hdrop : (buildTrain command).dropLast = command.flatMap fun b => (encodeByte b).toList := List.dropLast_concat
  have hlast : (buildTrain command).getLast? = some Pulse.stop := List.getLast?_concat
  have hlen : (buildTrain command).dropLast.length = 8 * command.length := by
    rw [List.length_dropLast, Machine.length_buildTrain, Nat.add_sub_cancel]
  have hbits : ∀ p ∈ (buildTrain command).dropLast, p = Pulse.zero ∨ p = Pulse.one := by
    intro p hp
    obtain ⟨k, hk⟩ := List.getElem?_of_mem hp
    obtain ⟨hlt, -⟩ := List.getElem?_eq_some_iff.mp hk
    rw [hlen] at hlt
    rw [List.getElem?_dropLast, if_pos (by rw [Machine.length_buildTrain]; omega)] at hk
    obtain ⟨-, b, rfl⟩ | ⟨rfl, -⟩ := getElem?_buildTrain_cases hk
    · exact bitToPulse_eq_zero_or_one b
    · exact absurd hlt (Nat.lt_irrefl _)
  simp only [Machine.isCommandTrain, hlast, hlen, Nat.mul_mod_right, beq_self_eq_true, Bool.true_and, Bool.and_true,
    List.all_eq_true, Bool.or_eq_true, beq_iff_eq]
  exact hbits

namespace Machine

/-! ### Buffers and histories -/

/-- A buffer that held nothing from index n on holds exactly the n elements written. -/
theorem filledTo_memWrite_of_below {α : Type} {m : Memory α} {xs : List α} {n : Nat} (hn : xs.length = n)
    (hbelow : ∀ k, (m.read k).isSome = true → k < n) : FilledTo (memWrite m 0 xs) (some n) := by
  intro k
  rw [read_memWrite, Nat.zero_add, hn]
  by_cases hk : k < n
  · rw [if_pos ⟨Nat.zero_le k, hk⟩, Nat.sub_zero, List.getElem?_eq_getElem (hn ▸ hk)]
    exact iff_of_true rfl ⟨n, rfl, hk⟩
  · rw [if_neg fun h => hk h.2]
    refine iff_of_false (fun h => hk (hbelow k h)) ?_
    rintro ⟨_, ⟨⟩, h⟩
    exact hk h

theorem filledTo_nil {α : Type} : FilledTo ([] : Memory α) none := by
  intro k
  exact iff_of_false Bool.false_ne_true (by simp)

/-- A history is legal after one more event that its scan allows. -/
theorem scan_events_concat {history : List Event} {sc sc' : Scan} {e : Event} (h : Scan.start.events history = some sc)
    (he : sc.event e = some sc') : Scan.start.events (history ++ [e]) = some sc' := by
  rw [Scan.events_append, h]
  simp only [Option.bind_some, Scan.events, he]

/-- The scan of a set-up block that holds no train. -/
theorem scan_of_inited {s : State} (hi : s.inited = true) (hc : s.capheld = false) : s.scan = ⟨some .ok, none⟩ := by
  simp [State.scan, hi, hc]

/-- What ties the history of a set-up block that holds no train to its flags (42 R190). -/
theorem historyLegal_of_inited {s : State} (h : Scan.start.events s.history = some ⟨some .ok, none⟩)
    (hi : s.inited = true) (hc : s.capheld = false) : Scan.start.events s.history = some s.scan := by
  rw [h, scan_of_inited hi hc]

/-- A set-up block may transmit a built train. -/
theorem event_transmit (pin : Pin) (command : List Byte) :
    (⟨some .ok, none⟩ : Scan).event (.transmit pin (buildTrain command)) = some ⟨some .ok, none⟩ :=
  if_pos ⟨rfl, rfl, isCommandTrain_buildTrain command⟩

/-- A held train is released. -/
theorem event_release (h : Handle) : (⟨some .ok, some h⟩ : Scan).event (.release h) = some ⟨some .ok, none⟩ :=
  if_pos rfl

/-! ### What the invariant gives -/

theorem BlockInvariant.capheld_eq_false {s : State} (hinv : BlockInvariant s) (h : s.phase ≠ .decoding) :
    s.capheld = false :=
  Bool.eq_false_iff.mpr fun hc => h (hinv.heldWhen hc)

/-- At rest the transients hold no value (10 R50). -/
theorem BlockInvariant.transients {s : State} (hinv : BlockInvariant s) (hidle : s.phase = .idle) :
    s.curop = none ∧ s.pinr = none ∧ s.cmdlen = none ∧ s.txlen = none := by
  simpa only [AtPhase, hidle] using hinv.atPhase

/-- While SENDING the block is set up and has the operands that the state's action reads. -/
theorem BlockInvariant.sending {s : State} (hinv : BlockInvariant s) (h : s.phase = .sending) :
    s.inited = true ∧ (s.curop = some .send ∨ s.curop = some .xfer) ∧ s.pinr ≠ none ∧ s.cmdlen ≠ none ∧
      s.rlen = none := by
  simpa only [AtPhase, h] using hinv.atPhase

theorem BlockInvariant.awaiting {s : State} (hinv : BlockInvariant s) (h : s.phase = .awaitingResponse) :
    s.inited = true ∧ (s.curop = some .recv ∨ s.curop = some .xfer) ∧ s.pinr ≠ none ∧ s.rlen = none := by
  simpa only [AtPhase, h] using hinv.atPhase

theorem BlockInvariant.decoding {s : State} (hinv : BlockInvariant s) (h : s.phase = .decoding) :
    s.inited = true ∧ s.capheld = true ∧ s.rlen = none := by
  simpa only [AtPhase, h] using hinv.atPhase

theorem BlockInvariant.timeout {s : State} (hinv : BlockInvariant s) (h : s.phase = .timeout) :
    s.inited = true ∧ s.rlen = none := by
  simpa only [AtPhase, h] using hinv.atPhase

/-- While a train is held its handle and its count are. -/
theorem BlockInvariant.held_of_capheld {s : State} (hinv : BlockInvariant s) (h : s.capheld = true) :
    s.caph ≠ none ∧ s.capcnt = some s.rx.length := by
  simpa only [h, if_true] using hinv.held

/-- Where RLEN holds no value, neither does RPT. -/
theorem BlockInvariant.rpt_read {s : State} (hinv : BlockInvariant s) (h : s.rlen = none) (k : Nat) :
    s.rpt.read k = none := by
  have hrpt := hinv.rptFilled
  rw [h] at hrpt
  exact hrpt.read_none k

/-- A set-up block that holds no train may make the events that such a scan allows. -/
theorem BlockInvariant.events_concat {s : State} (hinv : BlockInvariant s) (hi : s.inited = true)
    (hc : s.capheld = false) {e : Event} {sc : Scan} (he : (⟨some .ok, none⟩ : Scan).event e = some sc) :
    Scan.start.events (s.history ++ [e]) = some sc :=
  scan_events_concat (scan_of_inited hi hc ▸ hinv.historyLegal) he

/-! ### What the ports may change -/

theorem BlockInvariant.of_sameButPorts {s t : State} (hinv : BlockInvariant s) (h : SameButPorts s t)
    (herr : t.err ≠ .eBusy) (hdec : t.decIn.fits s.widths.durW = true) : BlockInvariant t := by
  rw [h]
  exact { hinv with errStored := herr, decInFits := hdec }

/-! ### The end of an operation -/

/-- With no train held the block may come to rest, its transients cleared. -/
theorem BlockInvariant.cleared {s : State} (hinv : BlockInvariant s) (hc : s.capheld = false) :
    BlockInvariant { clearTransients s with phase := .idle } :=
  { hinv with
    pinrFits := nofun
    txFits := nofun
    heldWhen := fun h => absurd h (ne_true_of_eq_false hc)
    held := by
      have hheld := hinv.held
      simp only [clearTransients, hc, Bool.false_eq_true, if_false, true_and] at hheld ⊢
      exact hheld.2.2
    txlenLegal := nofun
    cmdlenLegal := nofun
    cmdFilled := filledTo_nil
    txFilled := filledTo_nil
    canonical := ⟨rfl, rfl, hinv.canonical.2.2⟩
    atPhase := ⟨rfl, rfl, rfl, rfl⟩
    historyLegal := by
      have hscan : State.scan { clearTransients s with phase := .idle } = s.scan := by
        simp only [State.scan, clearTransients_capheld, hc]
        rfl
      exact hscan ▸ hinv.historyLegal }

theorem BlockInvariant.completed {s : State} (hinv : BlockInvariant s) (hc : s.capheld = false) :
    BlockInvariant (complete s) :=
  (hinv.cleared hc).of_sameButPorts rfl hinv.errStored hinv.decInFits

/-! ### The setup step -/

/-- At rest, with neither flag set, the first CONFIGURE is legal (42 R190 a). -/
theorem BlockInvariant.events_configure {s : State} (hinv : BlockInvariant s) (hidle : s.phase = .idle)
    (hfatal : s.fatal = false) (hi : s.inited = false) (pin : Pin) (answer : ConfigureAnswer) :
    Scan.start.events (s.history ++ [.configure pin answer]) = some ⟨some answer, none⟩ := by
  have hc : s.capheld = false := hinv.capheld_eq_false (by rw [hidle]; decide)
  have hscan : s.scan = ⟨none, none⟩ := by simp [State.scan, hi, hfatal, hc]
  exact scan_events_concat (hscan ▸ hinv.historyLegal) rfl

/-- The setup step that the environment answers with ok. -/
theorem BlockInvariant.configured {s : State} (hinv : BlockInvariant s) (hidle : s.phase = .idle)
    (hfatal : s.fatal = false) (hi : s.inited = false) (pin : Pin) (rest : List ConfigureAnswer) (k : Nat) :
    BlockInvariant { s with
      inited := true, history := s.history ++ [.configure pin .ok], configureAnswers := rest, draws := k } :=
  { hinv with
    flags := fun h => absurd h.2 (ne_true_of_eq_false hfatal)
    atPhase := by simpa only [AtPhase, hidle] using hinv.transients hidle
    historyLegal := historyLegal_of_inited (hinv.events_configure hidle hfatal hi pin .ok) rfl
      (hinv.capheld_eq_false (by rw [hidle]; decide)) }

/-- The setup step that the environment answers with fail, and the exception it raises (42 R185). -/
theorem BlockInvariant.raised {s : State} (hinv : BlockInvariant s) (hidle : s.phase = .idle)
    (hfatal : s.fatal = false) (hi : s.inited = false) (pin : Pin) (rest : List ConfigureAnswer) (k : Nat) :
    BlockInvariant (takeHwConfigFailure { s with
      fatal := true, history := s.history ++ [.configure pin .fail], configureAnswers := rest, draws := k }) := by
  have hc : s.capheld = false := hinv.capheld_eq_false (by rw [hidle]; decide)
  have hscan : State.scan (takeHwConfigFailure { s with
      fatal := true, history := s.history ++ [.configure pin .fail], configureAnswers := rest, draws := k }) =
        ⟨some .fail, none⟩ := by
    simp [State.scan, hi, hc]
  exact { hinv.cleared hc with
    flags := fun h => absurd h.1 (ne_true_of_eq_false hi)
    errStored := (by decide : ErrCode.eHwcfg ≠ .eBusy)
    rlenLegal := nofun
    rptFilled := filledTo_nil
    canonical := ⟨rfl, rfl, rfl⟩
    historyLegal := (hinv.events_configure hidle hfatal hi pin .fail).trans (congrArg some hscan.symm) }

/-- The setup step at a block at rest that is not faulted: a set-up block at rest, or the exception. -/
theorem BlockInvariant.ensured {s : State} (hinv : BlockInvariant s) (hidle : s.phase = .idle) (hfatal : s.fatal = false)
    (pin : Pin) :
    (∃ u, ensureInitialized pin s = .goesOn u ∧ BlockInvariant u ∧ u.phase = .idle ∧ u.fatal = false) ∨
    ∃ u, ensureInitialized pin s = .raised u ∧ BlockInvariant (takeHwConfigFailure u) ∧ u.inited = false ∧
      u.history = s.history ++ [.configure pin .fail] := by
  obtain ⟨-, e⟩ | ⟨hi, rest, k, e⟩ | ⟨hi, rest, k, e⟩ := ensureInitialized_cases pin s
  · exact .inl ⟨s, e, hinv, hidle, hfatal⟩
  · exact .inl ⟨_, e, hinv.configured hidle hfatal hi pin rest k, hidle, hfatal⟩
  · exact .inr ⟨_, e, hinv.raised hidle hfatal hi pin rest k, hi, rfl⟩

/-! ### ACCEPT -/

/-- A set-up block at rest may take the operands of an operation and go to the first state of its path. -/
theorem BlockInvariant.latched {s : State} (hinv : BlockInvariant s) (hidle : s.phase = .idle) {op : TransceiverOp}
    {pin : Pin} {n : Option Nat} {m : Memory Byte} {first : Phase} (hpin : Pin.fits s.widths.pinW pin = true)
    (hn : ∀ k, n = some k → k ≤ Config.cmdMax) (hfilled : FilledTo m n) (hm : m.wf = true)
    (hat : AtPhase (({ latch op pin s with cmdlen := n, cmd := m } : State).goTo first)) :
    BlockInvariant (({ latch op pin s with cmdlen := n, cmd := m } : State).goTo first) := by
  obtain ⟨-, -, -, htxlen⟩ := hinv.transients hidle
  have hc : s.capheld = false := hinv.capheld_eq_false (by rw [hidle]; decide)
  exact { hinv with
    pinrFits := by rintro _ ⟨⟩; exact hpin
    errStored := (by decide : ErrCode.noError ≠ .eBusy)
    heldWhen := fun h => absurd h (ne_true_of_eq_false hc)
    rlenLegal := nofun
    txlenLegal := fun t (ht : s.txlen = some t) => by rw [htxlen] at ht; cases ht
    cmdlenLegal := hn
    cmdFilled := hfilled
    rptFilled := filledTo_nil
    canonical := ⟨hm, hinv.canonical.2.1, rfl⟩
    atPhase := hat }

/-- A set-up block at rest enters the path of each operation that the checks let through. -/
theorem BlockInvariant.entered {s : State} (hinv : BlockInvariant s) (hidle : s.phase = .idle) (hi : s.inited = true)
    {i : Instr} {pin : Pin} (hpin : instrPin? i = some pin) (hwf : i.wf s.widths = true) (hlong : overlong i = false) :
    BlockInvariant ((latchOperands i s).goTo (firstPhase i)) := by
  have hcmdlen : s.cmdlen = none := (hinv.transients hidle).2.2.1
  have hcommand {op : TransceiverOp} {n : Nat} {command : List Byte} (hop : op = .send ∨ op = .xfer)
      (hwf : (Pin.fits s.widths.pinW pin && command.length == n) = true) (hlong : commandTooLong n = false) :
      BlockInvariant ((latchCommand n command (latch op pin s)).goTo .sending) := by
    rw [Bool.and_eq_true, beq_iff_eq] at hwf
    obtain ⟨hfits, hn⟩ := hwf
    have hempty : ∀ k, s.cmd.read k = none := fun k => FilledTo.read_none (hcmdlen ▸ hinv.cmdFilled) k
    refine hinv.latched (m := memWrite s.cmd 0 command) hidle hfits ?_ (filledTo_memWrite s.cmd command n hn hempty)
      (memWrite_wf command s.cmd 0 hinv.canonical.1) ?_
    · rintro _ ⟨⟩
      exact commandTooLong_eq_false.mp hlong
    · exact ⟨hi, hop.imp (congrArg some) (congrArg some), nofun, nofun, rfl⟩
  cases i <;> cases hpin
  case init => exact hinv.latched hidle hwf hinv.cmdlenLegal hinv.cmdFilled hinv.canonical.1 hi
  case send n command => exact hcommand (.inl rfl) hwf hlong
  case recv =>
    exact hinv.latched hidle hwf hinv.cmdlenLegal hinv.cmdFilled hinv.canonical.1 ⟨hi, .inl rfl, nofun, rfl⟩
  case xfer n command => exact hcommand (.inr rfl) hwf hlong

/-- ACCEPT of a well-formed instruction keeps the invariant. -/
theorem BlockInvariant.accepted {i : Instr} {s t : State} (hinv : BlockInvariant s) (hwf : i.wf s.widths = true)
    (h : accept i s = .next t) : BlockInvariant t := by
  cases hpin : instrPin? i with
  | none =>
    obtain ⟨u, e, hsame, herr, hdec⟩ := exec_of_noPin hpin s
    rw [accept_of_noPin hpin, e] at h
    cases h
    refine hinv.of_sameButPorts hsame ?_ (hdec hinv.widthsLegal hwf hinv.decInFits)
    obtain herr | herr := herr <;> rw [herr]
    · exact hinv.errStored
    · decide
  | some pin =>
    obtain ⟨-, -, e⟩ | ⟨-, code, hcode, -, e⟩ | ⟨-, -, e⟩ | ⟨⟨hidle, hfatal, hlong, -⟩, -, e⟩ :=
      operation_cases hpin s <;> rw [e] at h <;> cases h
    · exact hinv.of_sameButPorts (sameButPorts_refuseBusy s) hinv.errStored hinv.decInFits
    · exact hinv.of_sameButPorts (sameButPorts_refuse code s) hcode hinv.decInFits
    · obtain ⟨u, hr, hu, huidle, -⟩ | ⟨u, hr, hu, -⟩ := hinv.ensured hidle hfatal pin <;> rw [hr]
      · rw [← (continues_ensureInitialized (.inl hr)).widths] at hwf
        exact hu.entered huidle (inited_of_goesOn hr) hpin hwf hlong
      · exact hu

/-! ### The transitions of PHASE -/

/-- SENDING fills TX and makes a TRANSMIT (42 R180). -/
theorem BlockInvariant.sends {s : State} (hinv : BlockInvariant s) {pin : Pin} {n : Nat} {command : List Byte}
    {op : TransceiverOp} (hphase : s.phase = .sending) (hpin : s.pinr = some pin) (hn : s.cmdlen = some n)
    (hcmd : memRead s.cmd 0 n = some command) (hop : s.curop = some op) (hpath : op = .xfer ∨ op = .send) :
    BlockInvariant ((transmitCommand pin n command s).goTo (if op = .xfer then .awaitingResponse else .done)) := by
  obtain ⟨hi, -, -, -, hrlen⟩ := hinv.sending hphase
  have hc : s.capheld = false := hinv.capheld_eq_false (by rw [hphase]; decide)
  have hlen : (buildTrain command).length = 8 * n + 1 := by
    rw [length_buildTrain, ((memRead_eq_some_iff _ _ _ _).mp hcmd).1]
  have hbelow : ∀ k, (s.tx.read k).isSome = true → k < 8 * n + 1 := by
    intro k hk
    obtain ⟨t, ht, hkt⟩ := (hinv.txFilled k).mp hk
    obtain ⟨n', hn', rfl⟩ := hinv.txlenLegal t ht
    obtain rfl : n' = n := Option.some.inj (hn'.symm.trans hn)
    exact hkt
  exact { hinv with
    txFits := by
      intro k p (hk : (memWrite s.tx 0 (buildTrain command)).read k = some p)
      rw [read_memWrite] at hk
      split at hk
      · exact fits_buildTrain (Widths.two_le_durW hinv.widthsLegal) command p (List.mem_of_getElem? hk)
      · exact hinv.txFits k p hk
    heldWhen := fun h => absurd h (ne_true_of_eq_false hc)
    txlenLegal := by rintro _ ⟨⟩; exact ⟨n, hn, rfl⟩
    txFilled := filledTo_memWrite_of_below hlen hbelow
    canonical := ⟨hinv.canonical.1, memWrite_wf _ _ _ hinv.canonical.2.1, hinv.canonical.2.2⟩
    atPhase := by
      obtain rfl | rfl := hpath
      · exact ⟨hi, .inr hop, (Option.some_ne_none pin) ∘ hpin.symm.trans, hrlen⟩
      · exact hi
    historyLegal := historyLegal_of_inited (hinv.events_concat hi hc (event_transmit pin command)) hi hc }

/-- AWAITING_RESPONSE without a train (42 R181). -/
theorem BlockInvariant.timesOut {s : State} (hinv : BlockInvariant s) (hphase : s.phase = .awaitingResponse) (pin : Pin)
    (rest : List CaptureAnswer) (k : Nat) :
    BlockInvariant
      ((({ s with captureAnswers := rest, draws := k } : State).record (.capture pin 100 .noTrain)).goTo .timeout) := by
  obtain ⟨hi, -, -, hrlen⟩ := hinv.awaiting hphase
  have hc : s.capheld = false := hinv.capheld_eq_false (by rw [hphase]; decide)
  exact { hinv with
    heldWhen := fun h => absurd h (ne_true_of_eq_false hc)
    atPhase := ⟨hi, hrlen⟩
    historyLegal := historyLegal_of_inited (hinv.events_concat hi hc rfl) hi hc }

/-- AWAITING_RESPONSE takes a train over (42 R181). -/
theorem BlockInvariant.captures {s : State} (hinv : BlockInvariant s) (hphase : s.phase = .awaitingResponse) (pin : Pin)
    (rest : List CaptureAnswer) (k : Nat) (h : Handle) {train : List Pulse}
    (hfits : ∀ p ∈ train, p.fits s.widths.durW = true) :
    BlockInvariant
      ((holdTrain h train
        (({ s with captureAnswers := rest, draws := k } : State).record (.capture pin 100 (.train h train)))).goTo
          .decoding) := by
  obtain ⟨hi, -, -, hrlen⟩ := hinv.awaiting hphase
  have hc : s.capheld = false := hinv.capheld_eq_false (by rw [hphase]; decide)
  have hscan : State.scan ((holdTrain h train
      (({ s with captureAnswers := rest, draws := k } : State).record (.capture pin 100 (.train h train)))).goTo
        .decoding) = ⟨some .ok, some h⟩ := by
    simp [State.scan, hi]
  exact { hinv with
    rxFits := hfits
    heldWhen := fun _ => rfl
    held := ⟨Option.some_ne_none h, rfl⟩
    atPhase := ⟨hi, rfl, hrlen⟩
    historyLegal := (hinv.events_concat hi hc rfl).trans (congrArg some hscan.symm) }

/-- DECODING fills RPT and gives the train back (42 R183). -/
theorem BlockInvariant.decodes {s : State} (hinv : BlockInvariant s) {count : Nat} {h : Handle} {result : Nat × List Byte}
    (hphase : s.phase = .decoding) (hcount : s.capcnt = some count) (hcaph : s.caph = some h)
    (hresult : decodeFrame? count s.rx = some result) :
    BlockInvariant ((releaseTrain h (writeReport result s)).goTo .done) := by
  obtain ⟨hi, hc, hrlen⟩ := hinv.decoding hphase
  obtain ⟨-, hcapcnt⟩ := hinv.held_of_capheld hc
  obtain rfl : s.rx.length = count := Option.some.inj (hcapcnt.symm.trans hcount)
  obtain rfl : decodeFrame s.rx = result := Option.some.inj ((decodeFrame?_length s.rx).symm.trans hresult)
  have hscan : s.scan = ⟨some .ok, some h⟩ := by simp [State.scan, hi, hc, hcaph]
  have hlegal : Scan.start.events (s.history ++ [.release h]) = some ⟨some .ok, none⟩ :=
    scan_events_concat (hscan ▸ hinv.historyLegal) (event_release h)
  exact { hinv with
    rxFits := nofun
    heldWhen := nofun
    held := ⟨rfl, rfl, rfl⟩
    rlenLegal := by rintro _ ⟨⟩; exact decodeFrame_fst_cases s.rx
    rptFilled := filledTo_memWrite s.rpt _ _ (decodeFrame_length s.rx) (hinv.rpt_read hrlen)
    canonical := ⟨hinv.canonical.1, hinv.canonical.2.1, memWrite_wf _ _ _ hinv.canonical.2.2⟩
    atPhase := hi
    historyLegal := historyLegal_of_inited hlegal hi rfl }

/-- TIMEOUT reports no byte (42 R182). -/
theorem BlockInvariant.reportsNothing {s : State} (hinv : BlockInvariant s) (hphase : s.phase = .timeout) :
    BlockInvariant ((emptyReport s).goTo .done) := by
  obtain ⟨hi, hrlen⟩ := hinv.timeout hphase
  have hc : s.capheld = false := hinv.capheld_eq_false (by rw [hphase]; decide)
  exact { hinv with
    heldWhen := fun h => absurd h (ne_true_of_eq_false hc)
    rlenLegal := by rintro _ ⟨⟩; exact .inl rfl
    rptFilled := filledTo_memWrite s.rpt [] 0 rfl (hinv.rpt_read hrlen)
    atPhase := hi }

/-- Every transition of PHASE keeps the invariant. -/
theorem Transition.keeps {s t : State} (h : Transition s t) (hinv : BlockInvariant s) : BlockInvariant t := by
  cases h with
  | waits => exact hinv
  | sends hphase hpin hn hcmd hop hpath => exact hinv.sends hphase hpin hn hcmd hop hpath
  | timesOut hphase => exact hinv.timesOut hphase _ _ _
  | captures hphase _ hfits => exact hinv.captures hphase _ _ _ _ hfits
  | decodes hphase hcount hcaph hresult => exact hinv.decodes hphase hcount hcaph hresult
  | reportsNothing hphase => exact hinv.reportsNothing hphase
  | completes hphase => exact hinv.completed (hinv.capheld_eq_false (by rw [hphase]; decide))

theorem keptByTransitions_invariant : KeptByTransitions fun s t => BlockInvariant s → BlockInvariant t where
  refl _ := id
  trans _ _ _ hst htu := htu ∘ hst
  accept _ _ _ hwf h hinv := hinv.accepted hwf h
  advance _ _ := Transition.keeps
  pop _ hinv := hinv.of_sameButPorts rfl hinv.errStored hinv.decInFits
  drive _ _ _ hfits hinv := hinv.of_sameButPorts rfl hinv.errStored (fits_set hinv.decInFits hfits)

end Machine

open Machine

/-- Settles O56: acceptance and every transition keep the invariant, lifted to both step functions. -/
theorem everyStepKeepsTheInvariant : Obligations.EveryStepKeepsTheInvariant :=
  fun _ _ hinv h => keptByTransitions_invariant.step h hinv

end Sys2Proof
end

section
/-! PROOFS. What the invariant gives: the state after reset meets it, no transition lacks a value that it reads, every
operation in flight ends, and every run makes a legal history (10_state.md R54, 42_transceiver.md R190, R191). -/

namespace Sys2Proof.Machine

/-! ### Reset -/

theorem blockInvariant_resetAt {W : Widths} (hW : W.legal = true) : BlockInvariant (State.resetAt W) where
  widthsLegal := hW
  pinrFits := nofun
  txFits := nofun
  rxFits := nofun
  decInFits := Eight.fits_iff.mpr fun j => by
    fin_cases j <;> exact fits_of_le_three (Widths.two_le_durW hW) (Nat.zero_le 3) (Nat.zero_le 3)
  flags := nofun
  errStored := nofun
  heldWhen := nofun
  held := ⟨rfl, rfl, rfl⟩
  rlenLegal := nofun
  txlenLegal := nofun
  cmdlenLegal := nofun
  cmdFilled := filledTo_nil
  txFilled := filledTo_nil
  rptFilled := filledTo_nil
  canonical := ⟨rfl, rfl, rfl⟩
  atPhase := ⟨rfl, rfl, rfl, rfl⟩
  historyLegal := rfl

/-! ### Every transition has what it reads -/

/-- A range in which every element holds a value can be read. -/
theorem memRead_of_isSome {α : Type} (m : Memory α) (n : Nat) :
    ∀ i, (∀ k, k < n → (m.read (i + k)).isSome = true) → ∃ xs, memRead m i n = some xs := by
  induction n with
  | zero => exact fun i _ => ⟨[], rfl⟩
  | succ n ih =>
    intro i h
    obtain ⟨x, hx⟩ := Option.isSome_iff_exists.mp (h 0 (Nat.zero_lt_succ n))
    obtain ⟨xs, hxs⟩ := ih (i + 1) fun k hk => by
      rw [Nat.add_assoc, Nat.add_comm 1 k]
      exact h (k + 1) (Nat.succ_lt_succ hk)
    rw [Nat.add_zero] at hx
    exact ⟨x :: xs, by simp only [memRead, hx, hxs]⟩

/-- A buffer filled to a length can be read to that length. -/
theorem FilledTo.memRead {α : Type} {m : Memory α} {n : Nat} (h : FilledTo m (some n)) :
    ∃ xs, memRead m 0 n = some xs :=
  memRead_of_isSome m n 0 fun k hk => by
    rw [Nat.zero_add]
    exact (h k).mpr ⟨n, rfl, hk⟩

/-- From a state of the invariant every transition goes on. -/
theorem BlockInvariant.advance_next {s : State} (hinv : BlockInvariant s) : ∃ t, advance s = .next t := by
  cases hphase : s.phase with
  | idle => exact ⟨s, by rw [advance, hphase]⟩
  | sending =>
    obtain ⟨-, hcurop, hpinr, hcmdlen, -⟩ := hinv.sending hphase
    obtain ⟨pin, hpin⟩ := Option.ne_none_iff_exists'.mp hpinr
    obtain ⟨n, hn⟩ := Option.ne_none_iff_exists'.mp hcmdlen
    obtain ⟨command, hcmd⟩ := FilledTo.memRead (hn ▸ hinv.cmdFilled)
    rw [← goTo_self hphase]
    obtain hop | hop := hcurop
    · exact ⟨_, advance_sending hpin hn hcmd hop (.inr rfl)⟩
    · exact ⟨_, advance_sending hpin hn hcmd hop (.inl rfl)⟩
  | awaitingResponse =>
    obtain ⟨-, -, hpinr, -⟩ := hinv.awaiting hphase
    obtain ⟨pin, hpin⟩ := Option.ne_none_iff_exists'.mp hpinr
    rw [← goTo_self hphase, advance_awaiting hpin]
    cases (drawCapture s).1 <;> exact ⟨_, rfl⟩
  | decoding =>
    obtain ⟨-, hc, -⟩ := hinv.decoding hphase
    obtain ⟨hcaph, hcapcnt⟩ := hinv.held_of_capheld hc
    obtain ⟨h, hh⟩ := Option.ne_none_iff_exists'.mp hcaph
    exact ⟨_, advance_of_decoding hphase hcapcnt hh⟩
  | timeout => exact ⟨_, advance_of_timeout hphase⟩
  | done => exact ⟨complete s, by rw [advance, hphase]⟩

/-! ### Every operation ends -/

/-- How many transitions lead from a PHASE to IDLE at most (42 R177, R191). -/
def Phase.transitionsLeft : Phase → Nat
  | .idle => 0
  | .done => 1
  | .timeout => 2
  | .decoding => 2
  | .awaitingResponse => 3
  | .sending => 4

theorem Phase.eq_idle_of_transitionsLeft {p : Phase} : p.transitionsLeft ≤ 0 → p = .idle := by
  cases p <;> decide

/-- Every transition of an operation in flight brings its end nearer. -/
theorem Transition.transitionsLeft_lt {s t : State} (h : Transition s t) (hbusy : s.phase ≠ .idle) :
    t.phase.transitionsLeft < s.phase.transitionsLeft := by
  cases h with
  | waits hidle => exact absurd hidle hbusy
  | sends hphase _ _ _ _ hpath =>
    rw [hphase, goTo_phase]
    obtain rfl | rfl := hpath <;> decide
  | timesOut hphase => rw [hphase, goTo_phase]; decide
  | captures hphase => rw [hphase, goTo_phase]; decide
  | decodes hphase => rw [hphase, goTo_phase]; decide
  | reportsNothing hphase => rw [hphase, goTo_phase]; decide
  | completes hphase => rw [hphase, complete_phase]; decide

/-- With as many transitions as are left, an operation in flight comes to rest. -/
theorem BlockInvariant.settle_idle (k : Nat) : ∀ {s : State}, BlockInvariant s → s.phase.transitionsLeft ≤ k →
    ∃ t, settle k s = .next t ∧ t.phase = .idle := by
  induction k with
  | zero =>
    intro s hinv hleft
    exact ⟨s, rfl, Phase.eq_idle_of_transitionsLeft hleft⟩
  | succ k ih =>
    intro s hinv hleft
    by_cases hidle : s.phase = .idle
    · exact ⟨s, settle_of_idle hidle _, hidle⟩
    · obtain ⟨u, hu⟩ := hinv.advance_next
      have htransition := transition_of_advance hu
      rw [settle_of_busy hidle, hu]
      exact ih (htransition.keeps hinv) (Nat.le_of_lt_succ ((htransition.transitionsLeft_lt hidle).trans_le hleft))

/-- Every PHASE is at most four transitions from IDLE, so an operation in flight is over after four. -/
theorem BlockInvariant.settle_four {s : State} (hinv : BlockInvariant s) :
    ∃ t, settle 4 s = .next t ∧ t.phase = .idle :=
  hinv.settle_idle 4 (by cases s.phase <;> decide)

/-! ### Every run -/

/-- A step from rest ends at rest: an operation is performed whole. -/
theorem BlockInvariant.step_idle {s t : State} (hinv : BlockInvariant s) (hidle : s.phase = .idle)
    (h : step s = .next t) : t.phase = .idle := by
  unfold step at h
  cases hp : s.presented with
  | nil =>
    simp only [hp, advance, hidle] at h
    cases h
    exact hidle
  | cons p rest =>
    simp only [hp] at h
    obtain ⟨i, hdecode, e⟩ | ⟨slot, q, -, e⟩ := runPresented_cases exec p s <;> rw [e] at h
    · have hpopped : BlockInvariant s.popPresented := keptByTransitions_invariant.pop s hinv
      rw [← onNext_accept_settle (s := s.popPresented) hidle] at h
      obtain ⟨u, haccept, hsettle⟩ := onNext_eq_next h
      obtain ⟨v, hv, hvidle⟩ := (hpopped.accepted (wf_of_decode (W := s.widths) hdecode) haccept).settle_four
      rw [hv] at hsettle
      cases hsettle
      exact hvidle
    · cases h
      exact hidle

/-- What holds at the start and is kept by every step holds at the end of every run. -/
theorem run_keeps {M : Host.Core} {P : M.State → Prop} (hstep : ∀ s t, P s → M.step s = .next t → P t) (k : Nat) :
    ∀ {s t : M.State}, P s → M.run k s = .next t → P t := by
  induction k with
  | zero =>
    intro s t hs h
    cases h
    exact hs
  | succ k ih =>
    intro s t hs h
    unfold Host.Core.run at h
    cases hu : M.step s with
    | next u =>
      rw [hu] at h
      exact ih (hstep s u hs hu) h
    | fault f =>
      rw [hu] at h
      cases h
    | refused r =>
      rw [hu] at h
      cases h

/-! ### How an accepted operation ends -/

/-- What an operation's own part leaves alone. -/
theorem operationBody_eqs (i : Instr) (s : State) :
    (operationBody i s).err = s.err ∧ (operationBody i s).inited = s.inited ∧ (operationBody i s).fatal = s.fatal ∧
      (operationBody i s).encIn = s.encIn ∧ (operationBody i s).decIn = s.decIn := by
  have hreceive (pin : Pin) (s : State) : (receiveReport pin s).err = s.err ∧
      (receiveReport pin s).inited = s.inited ∧ (receiveReport pin s).fatal = s.fatal ∧
      (receiveReport pin s).encIn = s.encIn ∧ (receiveReport pin s).decIn = s.decIn := by
    obtain ⟨rest, k, ⟨-, e⟩ | ⟨h, train, -, e⟩⟩ := receiveReport_cases pin s <;> simp [e]
  cases i with
  | recv pin => exact hreceive pin s
  | xfer pin n command => exact hreceive pin (transmitCommand pin n command s)
  | _ => exact ⟨rfl, rfl, rfl, rfl, rfl⟩

/-- An operation that goes on from the setup step ends at rest with ERR NONE, signalled as completed; the flags and the
wires are those after the setup step. -/
theorem finishOperation_goesOn {i : Instr} {pin : Pin} (h : instrPin? i = some pin) (u : State) :
    (finishOperation i (.goesOn u)).phase = .idle ∧ (finishOperation i (.goesOn u)).err = .noError ∧
      (finishOperation i (.goesOn u)).inited = u.inited ∧ (finishOperation i (.goesOn u)).fatal = u.fatal ∧
      (finishOperation i (.goesOn u)).encIn = u.encIn ∧ (finishOperation i (.goesOn u)).decIn = u.decIn ∧
      (finishOperation i (.goesOn u)).signal = some .completed := by
  obtain ⟨herr, hinited, hfatal, henc, hdec⟩ := operationBody_eqs i (latchOperands i u)
  refine ⟨rfl, herr.trans ?_, hinited.trans ?_, hfatal.trans ?_, henc.trans ?_, hdec.trans ?_, rfl⟩ <;>
    cases i <;> cases h <;> rfl

/-- A command within CMD_MAX passes the check E_LEN. -/
theorem overlong_eq_false {i : Instr} (h : ∀ p n c, i = .send p n c ∨ i = .xfer p n c → n ≤ Config.cmdMax) :
    overlong i = false := by
  cases i with
  | send p n c => exact commandTooLong_eq_false.mpr (h p n c (.inl rfl))
  | xfer p n c => exact commandTooLong_eq_false.mpr (h p n c (.inr rfl))
  | _ => rfl

end Sys2Proof.Machine

namespace Sys2Proof

open Machine

/-! ### The obligations -/

/-- Settles O55: field by field, at any legal widths. -/
theorem resetMeetsTheInvariant : Obligations.ResetMeetsTheInvariant :=
  ⟨blockInvariant_resetAt rfl, fun _ => blockInvariant_resetAt⟩

/-- Settles O45: four transitions suffice, and each keeps the invariant. -/
theorem everyOperationEnds : Obligations.EveryOperationEnds := by
  intro s hinv
  obtain ⟨t, ht, hidle⟩ := hinv.settle_four
  exact ⟨t, ht, hidle, keptByTransitions_invariant.settle 4 ht hinv⟩

/-- Settles O58: transitions go on from the invariant, and what was decoded is well formed. -/
theorem noStepReadsWhatHoldsNoValue : Obligations.NoStepReadsWhatHoldsNoValue := by
  intro s hinv
  unfold step seqStep
  cases hp : s.presented with
  | nil => exact ⟨hinv.advance_next, hinv.advance_next⟩
  | cons p rest =>
    cases hdecode : decode s.widths p with
    | instr i =>
      simp only [runPresented, hdecode]
      exact exec_accept_next_of_wf (s := s.popPresented) (wf_of_decode hdecode)
    | pulse slot q =>
      simp only [runPresented, hdecode]
      exact ⟨⟨_, rfl⟩, _, rfl⟩

/-- Settles O57: the invariant and rest hold after reset and after every step. -/
theorem everyRunMakesALegalHistory : Obligations.EveryRunMakesALegalHistory := by
  intro W program configures captures k t hW h
  have hstart : BlockInvariant { State.resetAt W with
      presented := program, configureAnswers := configures, captureAnswers := captures } :=
    { blockInvariant_resetAt hW with }
  obtain ⟨hinv, hidle⟩ : BlockInvariant t ∧ t.phase = .idle :=
    run_keeps (M := core) (P := fun s : State => BlockInvariant s ∧ s.phase = .idle)
      (fun s u hs hu => ⟨everyStepKeepsTheInvariant s u hs.1 (.inl hu), hs.1.step_idle hs.2 hu⟩) k ⟨hstart, rfl⟩ h
  have hc : t.capheld = false := hinv.capheld_eq_false (by rw [hidle]; decide)
  refine ⟨?_, hinv.historyLegal, if_neg (ne_true_of_eq_false hc), hinv.flags, hidle, hc⟩
  rw [LegalHistory, hinv.historyLegal]
  rfl

/-- Settles O37: the setup step goes on or raises, and the invariant of the end says that nothing is held. -/
theorem operationEndsInSuccessOrFault : Obligations.OperationEndsInSuccessOrFault := by
  intro s i pin hinv hidle hfatal hpin hwf hlong
  have hexec := exec_of_accepted hpin hidle hfatal (overlong_eq_false hlong) (commandIsN_of_wf hwf)
  refine ⟨_, hexec, ?_⟩
  have hend := keptByTransitions_invariant.exec hwf hexec hinv
  obtain ⟨u, hr, -, -, hufatal⟩ | ⟨u, hr, -, hinited, hhistory⟩ := hinv.ensured hidle hfatal pin <;> rw [hr] at hend ⊢
  · obtain ⟨hphase, herr, hi, hf, -, -, hsignal⟩ := finishOperation_goesOn hpin u
    refine .inl ⟨⟨hphase, ?_, ?_⟩, herr, hi.trans (inited_of_goesOn hr), hsignal⟩
    · rw [Faulted, hf, hufatal]
      exact Bool.false_ne_true
    · exact hend.capheld_eq_false (by rw [hphase]; decide)
  · exact .inr ⟨rfl, rfl, rfl, hinited, rfl, hhistory⟩

end Sys2Proof
end

section
/-! PROOFS. The whole next state of each accepted operation (42_transceiver.md section 1), the transitions one by one
(42_transceiver.md section 2), and what the host reads after them (10_state.md R44). -/

namespace Sys2Proof.Machine

/-! ### The setup step, for the answers that are scripted -/

theorem ensureInitialized_of_ok {pin : Pin} {s : State} {rest : List ConfigureAnswer} (hi : s.inited = false)
    (ha : s.configureAnswers = .ok :: rest) :
    ensureInitialized pin s = .goesOn
      { s with inited := true, history := s.history ++ [.configure pin .ok], configureAnswers := rest } := by
  simp [ensureInitialized, drawConfigure, hi, ha, State.record]

theorem ensureInitialized_of_fail {pin : Pin} {s : State} {rest : List ConfigureAnswer} (hi : s.inited = false)
    (ha : s.configureAnswers = .fail :: rest) :
    ensureInitialized pin s = .raised
      { s with fatal := true, history := s.history ++ [.configure pin .fail], configureAnswers := rest } := by
  simp [ensureInitialized, drawConfigure, hi, ha, State.record]

/-- The setup done before, or made now: INITED is 1 afterwards, and the events are those of the setup. -/
theorem ensureInitialized_of_setup {pin : Pin} {s : State} {setup : List Event} {configures : List ConfigureAnswer}
    (h : (s.inited = true ∧ setup = [] ∧ configures = s.configureAnswers) ∨
      (s.inited = false ∧ setup = [.configure pin .ok] ∧ s.configureAnswers = .ok :: configures)) :
    ensureInitialized pin s = .goesOn
      { s with inited := true, history := s.history ++ setup, configureAnswers := configures } := by
  obtain ⟨hi, rfl, rfl⟩ | ⟨hi, rfl, ha⟩ := h
  · rw [ensureInitialized_of_inited hi, List.append_nil, ← hi]
  · exact ensureInitialized_of_ok hi ha

/-! ### What an accepted operation leaves -/

/-- The events of the setup step come first. -/
theorem afterOperation_setup (setup events : List Event) (configures : List ConfigureAnswer) (s : State) :
    afterOperation events { s with inited := true, history := s.history ++ setup, configureAnswers := configures } =
      { afterOperation (setup ++ events) s with inited := true, configureAnswers := configures } := by
  simp [afterOperation, List.append_assoc]

/-- One operation after another leaves the events of both. -/
theorem afterOperation_afterOperation (first second : List Event) (s : State) :
    afterOperation second (afterOperation first s) = afterOperation (first ++ second) s := by
  simp [afterOperation, List.append_assoc]

theorem finishOperation_init (pin : Pin) (u : State) :
    finishOperation (.init pin) (.goesOn u) = afterOperation [] u := by
  rw [afterOperation, List.append_nil]
  rfl

theorem finishOperation_send (pin : Pin) (n : Nat) (command : List Byte) (u : State) :
    finishOperation (.send pin n command) (.goesOn u) = afterOperation [.transmit pin (buildTrain command)] u := rfl

/-- RECV where no train comes: an empty report (42 R174). -/
theorem finishOperation_recv_noTrain {pin : Pin} {u : State} {rest : List CaptureAnswer}
    (ha : u.captureAnswers = .noTrain :: rest) :
    finishOperation (.recv pin) (.goesOn u) =
      { afterOperation [.capture pin 100 .noTrain] u with rlen := some 0, captureAnswers := rest } := by
  have hdraw := drawCapture_of_noTrain (s := latch .recv pin u) ha
  change complete (receiveReport pin (latch .recv pin u)) = _
  rw [receiveReport_of_noTrain (by rw [hdraw]), hdraw]
  rfl

/-- RECV where a train comes: its report, and its release (42 R174). -/
theorem finishOperation_recv_train {pin : Pin} {u : State} {rest : List CaptureAnswer} {h : Handle} {train : List Pulse}
    (ha : u.captureAnswers = .train h train :: rest) (hfits : ∀ p ∈ train, p.fits u.widths.durW = true) :
    finishOperation (.recv pin) (.goesOn u) =
      { afterOperation [.capture pin 100 (.train h train), .release h] u with
        rlen := some (decodeFrame train).1, rpt := memWrite [] 0 (decodeFrame train).2
        capheld := false, rx := [], captureAnswers := rest } := by
  have hdraw := drawCapture_of_train (s := latch .recv pin u) ha hfits
  change complete (receiveReport pin (latch .recv pin u)) = _
  rw [receiveReport_of_train (by rw [hdraw]), hdraw]
  have htimeout : Config.rxTimeout = 100 := rfl
  simp [complete, clearTransients, afterOperation, releaseTrain, writeReport, holdTrain, State.record, latch, htimeout]

/-- A draw looks at the environment's part of the state alone, and leaves the rest. -/
theorem drawCapture_congr {s v : State} (hwidths : v.widths = s.widths) (hanswers : v.captureAnswers = s.captureAnswers)
    (hdraws : v.draws = s.draws) :
    drawCapture v = ((drawCapture s).1,
      { v with captureAnswers := (drawCapture s).2.captureAnswers, draws := (drawCapture s).2.draws }) := by
  unfold drawCapture
  rw [hanswers, hwidths, hdraws]
  cases s.captureAnswers with
  | nil => rfl
  | cons answer rest => simp only [← hdraws]

theorem drawCapture_fst_congr {s v : State} (hwidths : v.widths = s.widths)
    (hanswers : v.captureAnswers = s.captureAnswers) (hdraws : v.draws = s.draws) :
    (drawCapture v).1 = (drawCapture s).1 := by
  rw [drawCapture_congr hwidths hanswers hdraws]

/-- After the setup step XFER is SEND and then RECV: the receive reads nothing that the end of SEND clears (42 R175). -/
theorem finishOperation_xfer (pin : Pin) (n : Nat) (command : List Byte) (u : State) :
    finishOperation (.xfer pin n command) (.goesOn u) =
      finishOperation (.recv pin) (.goesOn (finishOperation (.send pin n command) (.goesOn u))) := by
  rw [finishOperation_send]
  have hxfer := drawCapture_congr (s := u)
    (v := transmitCommand pin n command (latchOperands (.xfer pin n command) u)) rfl rfl rfl
  have hrecv := drawCapture_congr (s := u)
    (v := latchOperands (.recv pin) (afterOperation [.transmit pin (buildTrain command)] u)) rfl rfl rfl
  simp only [finishOperation, operationBody, receiveReport, hxfer, hrecv]
  cases (drawCapture u).1 <;> rfl

/-- A set-up block at rest accepts RECV, whatever the pin. -/
theorem exec_recv_of_inited {s : State} (hidle : s.phase = .idle) (hfatal : s.fatal = false) (hi : s.inited = true)
    (pin : Pin) : exec (.recv pin) s = .next (finishOperation (.recv pin) (.goesOn s)) := by
  rw [exec_of_accepted (i := .recv pin) rfl hidle hfatal rfl trivial, ensureInitialized_of_inited hi]

/-- The receive of a state that is latched, completed: the answer that is drawn fixes the events and the report. -/
theorem complete_receiveReport {pin : Pin} {s v : State} (hdraw : (drawCapture v).1 = (drawCapture s).1)
    (hrpt : v.rpt = []) :
    match (drawCapture s).1 with
    | .noTrain =>
      (complete (receiveReport pin v)).capheld = v.capheld ∧
      (complete (receiveReport pin v)).history = v.history ++ [.capture pin 100 .noTrain] ∧
      (complete (receiveReport pin v)).rlen = some 0 ∧ ∀ k, (complete (receiveReport pin v)).rpt.read k = none
    | .train h train =>
      (complete (receiveReport pin v)).history = v.history ++ [.capture pin 100 (.train h train), .release h] ∧
      (complete (receiveReport pin v)).capheld = false ∧
      (complete (receiveReport pin v)).rlen = some (decodeFrame train).1 ∧
      ∀ k, (complete (receiveReport pin v)).rpt.read k = (decodeFrame train).2[k]? := by
  obtain ⟨rest, k, ⟨ha, e⟩ | ⟨h, train, ha, e⟩⟩ := receiveReport_cases pin v <;> rw [← hdraw, ha, e]
  · refine ⟨by simp, by simp, by simp, fun j => ?_⟩
    simp only [complete_rpt, emptyReport_rpt, record_rpt, hrpt, Memory.read]
  · refine ⟨by simp, by simp, by simp [writeReport], fun j => ?_⟩
    simp only [complete_rpt, releaseTrain_rpt, writeReport_rpt, holdTrain_rpt, record_rpt, hrpt]
    rw [read_memWrite_decodeFrame]
    split
    · rfl
    · next hj => rw [List.getElem?_eq_none (by rw [decodeFrame_length]; omega), Memory.read]

/-- RECV and XFER within CMD_MAX end in a receive, of a state that differs from the one before in the operands that were
latched and in the TRANSMIT of XFER. -/
theorem operationBody_receives {pin : Pin} {n : Nat} {command : List Byte} {i : Instr} {sent : List Event} (s : State)
    (hn : command.length = n) (hmax : n ≤ Config.cmdMax)
    (hop : (i = .recv pin ∧ sent = []) ∨ (i = .xfer pin n command ∧ sent = [.transmit pin (buildTrain command)])) :
    instrPin? i = some pin ∧ overlong i = false ∧ CommandIsN i ∧
      ∃ v, operationBody i (latchOperands i s) = receiveReport pin v ∧ (drawCapture v).1 = (drawCapture s).1 ∧
        v.rpt = [] ∧ v.capheld = s.capheld ∧ v.history = s.history ++ sent := by
  obtain ⟨rfl, rfl⟩ | ⟨rfl, rfl⟩ := hop
  · exact ⟨rfl, rfl, trivial, latchOperands (.recv pin) s, rfl, drawCapture_fst_congr rfl rfl rfl, rfl,
      rfl, (List.append_nil _).symm⟩
  · exact ⟨rfl, commandTooLong_eq_false.mpr hmax, hn, transmitCommand pin n command (latchOperands (.xfer pin n command) s),
      rfl, drawCapture_fst_congr rfl rfl rfl, rfl, rfl, rfl⟩

/-! ### The host's reads -/

/-- A host read looks at PHASE and at the register. -/
theorem hostRead_congr {α : Type} {e : Element} {x : Option α} {s t : State} (hphase : t.phase = s.phase) :
    t.hostRead e x = s.hostRead e x := by
  unfold State.hostRead State.busy
  rw [hphase]

/-- So the host's reads of the report are fixed by PHASE, RLEN and RPT. -/
theorem hostReads_congr {s t : State} (hphase : t.phase = s.phase) (hrlen : t.rlen = s.rlen) (hrpt : t.rpt = s.rpt) :
    t.hostReadRlen = s.hostReadRlen ∧ ∀ k, t.hostReadRpt k = s.hostReadRpt k := by
  refine ⟨?_, fun k => ?_⟩
  · rw [State.hostReadRlen, hostRead_congr hphase, hrlen, State.hostReadRlen]
  · rw [State.hostReadRpt, hostRead_congr hphase, hrpt, State.hostReadRpt]

/-- Where nothing is reported, the host reads nothing. -/
theorem hostReads_of_noReport {s : State} (hidle : s.phase = .idle) (hrlen : s.rlen = none) (hrpt : s.rpt = []) :
    s.hostReadRlen = .error (.noValue .rlen) ∧ ∀ k, s.hostReadRpt k = .error (.noValue .rpt) := by
  refine ⟨?_, fun k => ?_⟩
  · rw [State.hostReadRlen, hostRead_of_idle hidle, hrlen]
  · rw [State.hostReadRpt, hostRead_of_idle hidle, hrpt, Memory.read]

/-- An instruction without a pin and a refused operation change nothing but the ports, ERR and the report of the port. -/
theorem sameButPorts_of_refused {i : Instr} {s t : State} (h : exec i s = .next t)
    (hwhy : instrPin? i = none ∨ ∃ code, t.signal = some (.refused code)) : SameButPorts s t := by
  cases hpin : instrPin? i with
  | none =>
    obtain ⟨u, e, hsame, -⟩ := exec_of_noPin hpin s
    rw [e] at h
    cases h
    exact hsame
  | some pin =>
    obtain ⟨code, hcode⟩ : ∃ code, t.signal = some (.refused code) := hwhy.resolve_left (by simp [hpin])
    obtain ⟨-, e, -⟩ | ⟨-, code, -, e, -⟩ | ⟨-, e, -⟩ | ⟨-, e, -⟩ := operation_cases hpin s <;> rw [e] at h <;> cases h
    · exact sameButPorts_refuseBusy s
    · exact sameButPorts_refuse code s
    · cases hr : ensureInitialized pin s <;> rw [hr] at hcode <;> cases hcode

/-! ### The faulted block -/

/-- A faulted block at rest answers every instruction, and only the ports, ERR and the report differ. -/
theorem exec_of_faulted {s : State} (hfatal : s.fatal = true) (hidle : s.phase = .idle) (i : Instr) :
    ∃ t, exec i s = .next t ∧ SameButPorts s t := by
  cases hpin : instrPin? i with
  | none =>
    obtain ⟨t, e, hsame, -⟩ := exec_of_noPin hpin s
    exact ⟨t, e, hsame⟩
  | some pin => exact ⟨_, fatalBlockRefusesTransceiverOperations s i pin hidle hfatal hpin, rfl⟩

/-- So every step of a faulted block at rest is answered, and leaves it so. -/
theorem step_of_faulted {s : State} (hfatal : s.fatal = true) (hidle : s.phase = .idle) :
    ∃ t, step s = .next t ∧ t.fatal = true ∧ t.phase = .idle ∧ t.history = s.history ∧ t.rlen = s.rlen ∧
      t.rpt = s.rpt := by
  unfold step
  cases s.presented with
  | nil => exact ⟨s, by simp only [advance, hidle], hfatal, hidle, rfl, rfl, rfl⟩
  | cons p rest =>
    obtain ⟨i, -, e⟩ | ⟨slot, q, -, e⟩ := runPresented_cases exec p s
    · obtain ⟨t, hexec, hsame⟩ := exec_of_faulted (s := s.popPresented) hfatal hidle i
      obtain ⟨-, -, hf, hphase, hrlen, hrpt, hhistory⟩ := hsame.eqs
      exact ⟨t, e.trans hexec, hf.trans hfatal, hphase.trans hidle, hhistory, hrlen, hrpt⟩
    · exact ⟨_, e, hfatal, hidle, rfl, rfl, rfl⟩

end Sys2Proof.Machine

namespace Sys2Proof

open Machine

/-! ### The obligations: whole operations -/

/-- Settles O29: the exception overwrites what was latched, the same for the four operations. -/
theorem configureFailureTakesTheException : Obligations.ConfigureFailureTakesTheException := by
  intro s pin n command rest i hidle hfatal hi ha hn hmax hop
  have hlong := commandTooLong_eq_false.mpr hmax
  have hfails {i : Instr} (hpin : instrPin? i = some pin) (hlong : overlong i = false) (hn : CommandIsN i) :
      exec i s = .next (takeHwConfigFailure
        { s with fatal := true, history := s.history ++ [.configure pin .fail], configureAnswers := rest }) := by
    rw [exec_of_accepted hpin hidle hfatal hlong hn, ensureInitialized_of_fail hi ha]
    rfl
  obtain rfl | rfl | rfl | rfl := hop
  · exact hfails rfl rfl trivial
  · exact hfails rfl hlong hn
  · exact hfails rfl rfl trivial
  · exact hfails rfl hlong hn

/-- Settles O30: the setup step and the end, with nothing between them. -/
theorem initConfiguresOnce : Obligations.InitConfiguresOnce := by
  intro s pin hidle hfatal
  have hexec := exec_of_accepted (i := .init pin) rfl hidle hfatal rfl trivial
  refine ⟨fun rest hi ha => ?_, fun hi => ?_⟩
  · rw [hexec, ensureInitialized_of_ok hi ha, finishOperation_init, afterOperation_setup]
    rfl
  · rw [hexec, ensureInitialized_of_inited hi, finishOperation_init]

/-- Settles O31: the TRANSMIT after the events of the setup step. -/
theorem sendTransmitsTheBuiltTrain : Obligations.SendTransmitsTheBuiltTrain := by
  intro s pin n command hidle hfatal hn hmax
  have hexec := exec_of_accepted (i := .send pin n command) rfl hidle hfatal (commandTooLong_eq_false.mpr hmax) hn
  refine ⟨fun hi => ?_, fun rest hi ha => ?_⟩
  · rw [hexec, ensureInitialized_of_inited hi, finishOperation_send]
  · rw [hexec, ensureInitialized_of_ok hi ha, finishOperation_send, afterOperation_setup]
    rfl

/-- Settles O32: the receive of either answer after the events of the setup step. -/
theorem recvDecodesAndReleases : Obligations.RecvDecodesAndReleases := by
  intro s pin setup configures rest hidle hfatal hsetup
  have hexec := exec_of_accepted (i := .recv pin) rfl hidle hfatal rfl trivial
  rw [hexec, ensureInitialized_of_setup hsetup]
  refine ⟨fun ha => ?_, fun h train ha hfits => ?_⟩
  · rw [finishOperation_recv_noTrain (rest := rest), afterOperation_setup]
    exact ha
  · rw [finishOperation_recv_train (rest := rest) (h := h) (train := train), afterOperation_setup]
    · exact ha
    · exact hfits

/-- Settles O33: XFER is SEND and then RECV, so the TRANSMIT comes between the setup step and the receive. -/
theorem xferSendsThenReceives : Obligations.XferSendsThenReceives := by
  intro s pin n command setup configures rest hidle hfatal hn hmax hsetup
  have hexec := exec_of_accepted (i := .xfer pin n command) rfl hidle hfatal (commandTooLong_eq_false.mpr hmax) hn
  rw [hexec, ensureInitialized_of_setup hsetup, finishOperation_xfer, finishOperation_send]
  refine ⟨fun ha => ?_, fun h train ha hfits => ?_⟩
  · rw [finishOperation_recv_noTrain (rest := rest), afterOperation_afterOperation, afterOperation_setup]
    · rfl
    · exact ha
  · rw [finishOperation_recv_train (rest := rest) (h := h) (train := train), afterOperation_afterOperation,
      afterOperation_setup]
    · rfl
    · exact ha
    · exact hfits

/-- Settles O34: the receive draws what the idle state draws, and the answer fixes the report. -/
theorem receiveForEveryCaptureAnswer : Obligations.ReceiveForEveryCaptureAnswer := by
  intro s pin n command i sent hidle hfatal hi hn hmax hop
  obtain ⟨hpin, hlong, hn, v, hv, hdraw, hrpt, hcapheld, hhistory⟩ := operationBody_receives s hn hmax hop
  have hreport := complete_receiveReport (pin := pin) hdraw hrpt
  rw [← hv, hcapheld, hhistory] at hreport
  have hexec := exec_of_accepted hpin hidle hfatal hlong hn
  rw [ensureInitialized_of_inited hi] at hexec
  obtain ⟨hphase, herr, hinited, hf, henc, hdec, hsignal⟩ := finishOperation_goesOn hpin s
  exact ⟨_, _, hexec, rfl, hphase, herr, hinited.trans hi, hf.trans hfatal, henc, hdec, hsignal, hreport⟩

/-- Settles O35: from a refusal both refuse alike; from an accepted SEND by `finishOperation_xfer`. -/
theorem xferIsSendThenRecv : Obligations.XferIsSendThenRecv := by
  intro s t pin n command hn hmax hsend hfatal
  have hlong := commandTooLong_eq_false.mpr hmax
  by_cases hidle : s.phase = .idle
  case neg =>
    rw [exec_eq_atPort (i := .send pin n command) rfl, atPort_of_busy hidle] at hsend
    cases hsend
    rw [exec_eq_atPort (i := .xfer pin n command) rfl, exec_eq_atPort (i := .recv pin) rfl, atPort_of_busy hidle,
      atPort_of_busy (s := refuseBusy s) hidle]
    rfl
  cases hsfatal : s.fatal with
  | true =>
    rw [fatalBlockRefusesTransceiverOperations s _ pin hidle hsfatal rfl] at hsend
    cases hsend
    exact absurd (hsfatal.symm.trans hfatal) (by decide)
  | false =>
    rw [exec_of_accepted (i := .send pin n command) rfl hidle hsfatal hlong hn] at hsend
    rw [exec_of_accepted (i := .xfer pin n command) rfl hidle hsfatal hlong hn]
    cases hr : ensureInitialized pin s with
    | raised u =>
      rw [hr] at hsend
      cases hsend
      cases hfatal
    | goesOn u =>
      rw [hr] at hsend
      cases hsend
      have hi : (finishOperation (.send pin n command) (.goesOn u)).inited = true := (inited_of_goesOn hr : u.inited = true)
      rw [exec_recv_of_inited rfl hfatal hi, finishOperation_xfer]

/-- Settles O50: every step of a faulted block at rest is a refusal, an ENC or DEC, a wire or nothing. -/
theorem faultedBlockMakesNoEvent : Obligations.FaultedBlockMakesNoEvent := by
  intro s hfatal hidle
  obtain ⟨t, hstep, hkept⟩ := step_of_faulted hfatal hidle
  obtain ⟨henc, hdec⟩ := codecOperationsCompleteAtTheIdlePort s hidle
  refine ⟨⟨t, hstep⟩, fun u hu => ?_, fun value => ?_, fun pulses => ?_⟩
  · obtain rfl : t = u := by rw [hstep] at hu; cases hu; rfl
    exact hkept
  · obtain ⟨u, hexec, hout, hu⟩ := henc value
    exact ⟨u, hexec, hout, congrArg State.signal hu⟩
  · obtain ⟨u, hexec, hout, hu⟩ := hdec pulses
    exact ⟨u, hexec, hout, congrArg State.signal hu⟩

/-- Settles O51: the report that RECV leaves, what no refused operation and no codec operation changes, and what an
accepted INIT clears. -/
theorem reportIsReadableInItsWindow : Obligations.ReportIsReadableInItsWindow := by
  refine ⟨fun s t pin h train rest hidle hfatal hi ha hfits hexec => ?_, fun i s t hexec hwhy => ?_,
    fun pin s t hidle hfatal hexec => ?_, fun s hbusy => ⟨hostRead_of_busy hbusy, fun k => hostRead_of_busy hbusy⟩⟩
  · rw [exec_recv_of_inited hidle hfatal hi, finishOperation_recv_train ha hfits] at hexec
    cases hexec
    refine ⟨hostRead_of_idle rfl, fun k b hk => ?_, fun k hk => ?_⟩ <;>
      rw [State.hostReadRpt, hostRead_of_idle rfl, read_memWrite_decodeFrame]
    · obtain ⟨hlt, -⟩ := List.getElem?_eq_some_iff.mp hk
      rw [if_pos (decodeFrame_length train ▸ hlt), hk]
    · rw [if_neg (Nat.not_lt.mpr hk), Memory.read]
  · obtain ⟨-, -, -, hphase, hrlen, hrpt, -⟩ := (sameButPorts_of_refused hexec hwhy).eqs
    exact hostReads_congr hphase hrlen hrpt
  · rw [exec_of_accepted (i := .init pin) rfl hidle hfatal rfl trivial] at hexec
    cases hexec
    cases ensureInitialized pin s <;> exact hostReads_of_noReport rfl rfl rfl

/-! ### The obligations: single transitions -/

/-- Settles O38: the setup step made first, then the operands latched. -/
theorem acceptLatchesAndSetsUp : Obligations.AcceptLatchesAndSetsUp := by
  intro s pin n command i op latched first hidle hfatal hn hmax hop
  obtain ⟨hpin, hlong, hisN, hlatched⟩ : instrPin? i = some pin ∧ overlong i = false ∧ CommandIsN i ∧
      ∀ u, enterPath i (.goesOn u) = afterAccept op pin latched first u := by
    have hlong := commandTooLong_eq_false.mpr hmax
    subst hn
    obtain ⟨rfl, rfl, rfl, rfl⟩ | ⟨rfl, rfl, rfl, rfl⟩ | ⟨rfl, rfl, rfl, rfl⟩ | ⟨rfl, rfl, rfl, rfl⟩ := hop
    · exact ⟨rfl, rfl, trivial, fun _ => rfl⟩
    · exact ⟨rfl, rfl, trivial, fun _ => rfl⟩
    · exact ⟨rfl, hlong, rfl, fun _ => rfl⟩
    · exact ⟨rfl, hlong, rfl, fun _ => rfl⟩
  rw [accept_of_accepted hpin hidle hfatal hlong hisN]
  refine ⟨fun hi => ?_, fun rest hi ha => ?_, fun rest hi ha => ?_, ?_, ?_⟩
  · rw [ensureInitialized_of_inited hi, hlatched]
  · rw [ensureInitialized_of_ok hi ha, hlatched]
    rfl
  · rw [ensureInitialized_of_fail hi ha]
    rfl
  · rintro rfl
    exact ⟨rfl, rfl⟩
  · rintro rfl
    refine ⟨congrArg some hn, memRead_memWrite s.cmd command n hn, fun k hk => ?_⟩
    exact (read_memWrite command s.cmd 0 k).trans (if_neg (by omega))

/-- Settles O39: the transition that `advance_sending` gives, TX read by the laws of the buffers. -/
theorem sendingTransition : Obligations.SendingTransition := by
  intro s pin n command op hphase hpin hn hcmd hop hpath
  have hadvance := advance_sending hpin hn hcmd hop hpath
  rw [goTo_self hphase] at hadvance
  have hlen : (buildTrain command).length = 8 * n + 1 := by
    rw [length_buildTrain, ((memRead_eq_some_iff _ _ _ _).mp hcmd).1]
  refine ⟨_, hadvance, memRead_memWrite s.tx (buildTrain command) _ hlen, fun k hk => ?_, rfl⟩
  exact (read_memWrite (buildTrain command) s.tx 0 k).trans (if_neg (by omega))

/-- Settles O40: the transition that `advance_awaiting` gives, for the answer that is scripted. -/
theorem awaitingResponseTransition : Obligations.AwaitingResponseTransition := by
  intro s pin rest hphase hpin
  have hadvance := advance_awaiting hpin
  rw [goTo_self hphase] at hadvance
  refine ⟨fun ha => ?_, fun h train ha hfits => ?_⟩
  · rw [hadvance, drawCapture_of_noTrain ha]
    rfl
  · rw [hadvance, drawCapture_of_train ha hfits]
    rfl

/-- Settles O43: DONE is `complete`, and it writes just those fields. -/
theorem doneTransition : Obligations.DoneTransition := by
  intro s hphase
  rw [advance, hphase]
  rfl

/-! ### The obligations: reset and codes -/

/-- Settles O52: the reset state by evaluation. -/
theorem resetValues : Obligations.ResetValues :=
  ⟨rfl, rfl, rfl, rfl, rfl, rfl, rfl, rfl, rfl, rfl, rfl, rfl, fun _ => ⟨rfl, rfl, rfl⟩, rfl, rfl⟩

/-- Settles O53: the code tables by evaluation; IDLE is the one PHASE of code 0. -/
theorem registerCodes : Obligations.RegisterCodes := by
  refine ⟨rfl, rfl, fun _ _ _ => rfl, rfl, fun s => ?_⟩
  rw [State.busy]
  cases s.phase <;> decide

/-- Settles O54: the two branches of the host's reset. -/
theorem hostResetOnlyAtIdle : Obligations.HostResetOnlyAtIdle := by
  refine fun s => ⟨fun hidle => ⟨_, if_neg ?_, rfl⟩, fun hbusy => if_pos (decide_eq_true hbusy)⟩
  simp [State.busy, hidle]

end Sys2Proof
end
